-- ==== Sys2Proof/Word.lean ====
section
/-! DEFINITION. The word types of the part: a byte of a frame, a 16-bit payload word, a corridor time. -/

namespace Sys2Proof

/-- One byte of a corridor frame (chapter 11). -/
abbrev Byte := BitVec 8

/-- One 16-bit payload word; a power quantity on the line is such a word, read as signed (4.1). -/
abbrev Word := BitVec 16

/-- A corridor time: a 32-bit count of 0.1 ms that wraps (4.2). -/
abbrev Time := BitVec 32

end Sys2Proof
end

