-- ==== Sys2Proof/Config.lean ====
section
/-! DEFINITION. The limits the manual fixes for the part, and the free values it leaves open. -/

namespace Sys2Proof.Config

/-- Records the Report Queue holds (R184). -/
abbrev reportLimit : Nat := 96
/-- ROUTINE records the Report Queue holds (R185). -/
abbrev routineLimit : Nat := 64
/-- Orders the trip order table holds (R101). -/
abbrev orderLimit : Nat := 48
/-- Entries of a selection (R86). -/
abbrev selectionLimit : Nat := 24
/-- Waiting frames of a transmit queue (R138). -/
abbrev txLimit : Nat := 8
/-- Receive buffers of a channel (Table 7-4). -/
abbrev rxBuffers : Nat := 2
/-- Outcomes of a quality window (Table 7-4). -/
abbrev windowLimit : Nat := 16
/-- Entries of the request queue (R174). -/
abbrev requestLimit : Nat := 2
/-- Immediate refusals kept (R173). -/
abbrev refusalLimit : Nat := 2
/-- Words of a frame's payload (Table 11-1). -/
abbrev payloadLimit : Nat := 120
/-- Sends of an image before it is UNCONFIRMED (R97). -/
abbrev imageSends : Nat := 3
/-- Codes of an image that one ARM_SET carries (R96). -/
abbrev imageCodes : Nat := 32

/-- FREE VALUE (log 9): the word in which a reply or report gives an item that is above 65535
and for which the manual gives one word and no limit (R195). -/
opaque wideItem : Nat → Word

/-- FREE VALUE (log 28): the address field of a PROBE frame, which is for no site (R151, R193). -/
opaque probeAddress : BitVec 4

/-- FREE VALUE (log 28): the time a probe's reply gives, at a corridor time, for a frame that returns before
the probe's transmission ends (R151). -/
opaque earlyReturn : Time → Word

/-- FREE VALUE (log 29): the requirement that a SELECTION_CHANGE of a commit gives, at a corridor time, for
a scheme that is now never published (R88, R99). -/
opaque carriedRequirement : Time → Nat → Word

/-- FREE VALUE (log 29): the SHORT and mandatory-missing flags of the same report. -/
opaque carriedStatus : Time → Nat → BitVec 2

/-- FREE VALUE (log 43): the requirement that a shadow scan works to, at a corridor time, for a scheme that
has no prepared record (R95). -/
opaque unpreparedRequirement : Time → Nat → Nat

/-- FREE VALUE (log 56): the requirement that a routine scan works to, at a corridor time, for a scheme whose
evaluation record is absent (R39, R86). -/
opaque absentRequirement : Time → Nat → Nat

/-- FREE VALUE (log 40): the site reply timeout, in counts, of a channel with no definition, at a corridor
time (R97). -/
opaque strayTimeout : Time → Nat

end Sys2Proof.Config
end

