-- ==== Sys2Proof/Syntax.lean ====
section
/-! DEFINITION. The commands of the part: one constructor per row of spec/opcode_table.json.

The part fetches no instruction. A command is a host request carried out, a frame or a part of one
that arrives, the taking of a message that one block has sent to another, or a timer that runs out.
A host request's row has no operand: the port carries out the request that waits in its queue (R175).
An event names the unit it acts on. -/

namespace Sys2Proof

/-- A receiver of corridor frames: the host line or a channel (R191). -/
inductive Receiver where
  | host
  | channel (c : Fin 8)
deriving DecidableEq, Repr

/-- A scheme's mode (Table 4-2). -/
inductive Mode where
  | service
  | test
deriving DecidableEq, Repr

/-- A final state of a trip order (Table 6-3). -/
inductive FinalState where
  | confirmed
  | failed
  | withdrawn
  | expired
deriving DecidableEq, Repr

/-- Who sent a rescan request: the Arming Evaluator (R48, R58, R62) or the Action Pool (R84). -/
inductive RescanSource where
  | evaluator
  | pool
deriving DecidableEq, Repr

/-- The commands of the part, in the table's order. -/
inductive Instr where
  /-- POWER_ON_RESET (R155): Power-up or assertion of RST_N empties both banks, reads the host-rate straps and returns every block to its power-on state. -/
  | powerOnReset (straps : BitVec 2)
  /-- HEADER_DECODE (R191): The fourth header byte after a delimiter arrives; the header is checked, corrected or found uncorrectable, and its length is tested. -/
  | headerDecode (rx : Receiver) (bytes : List Byte)
  /-- HOST_REQUEST_ARRIVAL (R172): A host frame arrives and is checked; it is offered to the request queue or refused at once. -/
  | hostRequestArrival (payload : List Byte) (crc : Word)
  /-- HOST_BYTE_GAP (R172): A gap of more than 2 ms inside a host frame abandons the frame, with a BAD_FRAME refusal after the header and none before, and the hunt resumes. -/
  | hostByteGap
  /-- REPLY_TRANSMITTED (R174): The last frame of a completion reply has been transmitted, which frees the request's entry and lets the transmitter take the next reply. -/
  | replyTransmitted
  /-- REFUSAL_TRANSMITTED (R173): An immediate refusal has been transmitted and leaves the port's transmit order. -/
  | refusalTransmitted
  /-- IDENT (R178): Returns the part number, design level, strap setting, corridor time and active bank state and label. -/
  | ident
  /-- STAGE_OPEN (R156): Opens the staged bank either cleared or copied from the active bank, and sets its label. -/
  | stageOpen
  /-- STAGE_WRITE (R157): Replaces one staged record with the content carried, or makes it UNDEFINED, after the range checks. -/
  | stageWrite
  /-- STAGE_SEAL (R158): Runs the seal checks on the open staged bank; the bank becomes SEALED with a check value, or REJECTED with a report. -/
  | stageSeal
  /-- BANK_SWITCH (R161): Accepts a switch to the sealed staged bank, makes the switch PENDING and judges quiescence at once. -/
  | bankSwitch
  /-- BANK_CANCEL (R168): Cancels a PENDING or PREPARING switch, ends any preparation and reports CANCELLED. -/
  | bankCancel
  /-- BANK_READ (R160): Returns one record of the active or staged bank, together with that bank's state and label. -/
  | bankRead
  /-- SCHEME_SET_ENABLE (R68): Sets a scheme's enable ON, evaluates it and judges it from DISARMED. -/
  | schemeSetEnable
  /-- SCHEME_SET_DISABLE (R68): Sets a scheme's enable OFF, makes it DISARMED, removes any dwell and makes its record absent. -/
  | schemeSetDisable
  /-- SCHEME_SET_BLOCK (R69): Sets the scheme's blocked flag, which acts at the next start query. -/
  | schemeSetBlock
  /-- SCHEME_SET_UNBLOCK (R69): Clears the scheme's blocked flag. -/
  | schemeSetUnblock
  /-- SCHEME_SET_SERVICE (R70): Sets the scheme's mode to SERVICE unless the scheme is frozen. -/
  | schemeSetService
  /-- SCHEME_SET_TEST (R70): Sets the scheme's mode to TEST unless the scheme is frozen. -/
  | schemeSetTest
  /-- SCHEME_RESET (R67): Returns a LATCHED scheme that is not frozen to DISARMED, then evaluates and judges it. -/
  | schemeReset
  /-- CONTINGENCY_RESET (R35): Clears a HELD contingency whose live execution count is 0, or confirms one that is CLEAR. -/
  | contingencyReset
  /-- ACTION_SET_BLOCK (R83): Makes an action BLOCKED with block cause HOST unless it is COMMITTED. -/
  | actionSetBlock
  /-- ACTION_SET_RESTORE (R83): Re-evaluates an action that is BLOCKED, TRIPPED or UNCERTAIN and removes its block cause. -/
  | actionSetRestore
  /-- POINT_PUT (R4): Applies host samples to LOCAL points, whole or not at all, and sends their notices as one batch. -/
  | pointPut
  /-- POINT_SUBST (R12): Makes a point SUBSTITUTED with a host value, or replaces its substitute value. -/
  | pointSubst
  /-- POINT_RELEASE (R13): Removes a substitute and sets the point's quality from its recorded state. -/
  | pointRelease
  /-- STATUS_GET_SCHEME (R75): Returns a scheme's definition, dynamic record, evaluation record and the corridor alert. -/
  | statusGetScheme
  /-- STATUS_GET_SELECTION (R100): Returns a scheme's published selection, its held-rescan flag, its scan status and the queue lengths. -/
  | statusGetSelection
  /-- STATUS_GET_CONTINGENCY (R36): Returns a contingency's record, its triggered schemes, its mode and its window. -/
  | statusGetContingency
  /-- STATUS_GET_ACTION (R100): Returns an action's definition and its dynamic record. -/
  | statusGetAction
  /-- STATUS_GET_POINT (R18): Returns the whole point record. -/
  | statusGetPoint
  /-- STATUS_GET_CHANNEL_SUMMARY (R154): Returns a summary of every channel and every site. -/
  | statusGetChannelSummary
  /-- STATUS_GET_SITE (R154): Returns a site's routes, reachability, per-channel records and arm image. -/
  | statusGetSite
  /-- STATUS_GET_ORDER_TABLE (R127): Returns every execution record and every order in the table, with the next serial. -/
  | statusGetOrderTable
  /-- STATUS_GET_BANK_STATUS (R170): Returns the bank states, labels and check values and the switch status. -/
  | statusGetBankStatus
  /-- STATUS_GET_CORRIDOR_TIME (R179): Returns the corridor time at which the request is carried out. -/
  | statusGetCorridorTime
  /-- REPORT_FETCH (R188): Removes up to 16 of the oldest reports and returns them with the counts and pending-gap flags. -/
  | reportFetch
  /-- CHANNEL_SET_ENABLE (R148): Moves a DISABLED channel to ACQUIRING and starts its cadence and poll cycle. -/
  | channelSetEnable
  /-- CHANNEL_SET_DISABLE (R148): Makes a channel DISABLED and applies the clearing, including the loss notice. -/
  | channelSetDisable
  /-- CHANNEL_SET_LOOPBACK (R148): Puts an enabled channel in LOOPBACK and applies the clearing. -/
  | channelSetLoopback
  /-- CHANNEL_SET_NORMAL (R148): Returns a LOOPBACK channel to ACQUIRING. -/
  | channelSetNormal
  /-- CHANNEL_SET_RESET (R149): Resets a channel's working state, entering ACQUIRING unless it was DISABLED. -/
  | channelSetReset
  /-- CHANNEL_PROBE (R151): Creates a probe on a LOOPBACK channel and queues its PROBE frame; the reply is held until the result is known. -/
  | channelProbe
  /-- ENGINE_RESTART (R181): Delivers the engine restart to every block for each to apply its own restart rule. -/
  | engineRestart
  /-- RESTART_COMPLETE (R181): Every block has finished its restart; the DONE reply is formed with the abandoned counts and the completion time. -/
  | restartComplete
  /-- CHANNEL_FRAME_COMPLETE (R130): A channel frame completes reception and takes a free receive buffer, or is an overrun, or in LOOPBACK is offered to a probe. -/
  | channelFrameComplete (c : Fin 8) (payload : List Byte) (crc : Word)
  /-- RECEIVE_BUFFER_CHECK (R131): A buffered frame is checked for CRC, address and sequence; its outcomes are recorded, the channel state is judged and its content is delivered. -/
  | receiveBufferCheck (c : Fin 8)
  /-- SITE_SAMPLES_TAKEN (R2): The Point Store takes a STATUS_REPLY or TELEMETRY frame through the sequence filter and processes its samples as one batch. -/
  | siteSamplesTaken (c : Fin 8)
  /-- POLL_ANSWER (R143): A good STATUS_REPLY or TELEMETRY answers an AWAITING poll and makes the site reachable on the channel. -/
  | pollAnswer (c : Fin 8)
  /-- INDICATION_TAKEN (R23): The Contingency Detector takes an INDICATION frame as evidence for every matching term. -/
  | indicationTaken (c : Fin 8)
  /-- TRIP_ACK_TAKEN (R108): The Trip Dispatcher takes a TRIP_ACK and matches it against the order table. -/
  | tripAckTaken (c : Fin 8)
  /-- ARM_ACK_TAKEN (R97): An ARM_ACK carrying the current image version makes the site's image CONFIRMED. -/
  | armAckTaken (c : Fin 8)
  /-- TRANSMISSION_END (R139): A channel finishes transmitting a frame, tells its owner, and the transmitter takes the next frame. -/
  | transmissionEnd (c : Fin 8)
  /-- POLL_DUE (R141): A site falls due in the poll cycle and a POLL frame is offered to the channel's queue. -/
  | pollDue (c : Fin 8)
  /-- POLL_CYCLE_START (R141): A new poll cycle starts one period after the last, taking a pending return to RELAXED. -/
  | pollCycleStart (c : Fin 8)
  /-- POLL_REPLY_TIMEOUT (R143): An AWAITING poll's reply timeout is reached; missed polls rise and the site may become not reachable on the channel. -/
  | pollReplyTimeout (c : Fin 8) (site : Fin 16)
  /-- LOSS_TIME_EXPIRY (R135): A channel hears no good frame for its loss time and enters DOWN, with a loss notice and loss of reachability. -/
  | lossTimeExpiry (c : Fin 8)
  /-- CORRIDOR_ALERT_DELIVERY (R142): A channel takes a new corridor alert value and adjusts its cadence or settle end. -/
  | corridorAlertDelivery (c : Fin 8)
  /-- SETTLE_TIME_EXPIRY (R142): The settle end is reached with the alert false, and a return mark replaces it. -/
  | settleTimeExpiry (c : Fin 8)
  /-- REVERT_DELAY_EXPIRY (R146): The revert delay runs out and the route is judged for return to the primary. -/
  | revertDelayExpiry (site : Fin 16)
  /-- LIVE_ORDER_NOTICE (R146): A creation or end of an order for a site changes its live order count; a decrease triggers a route judgement. -/
  | liveOrderNotice (site : Fin 16)
  /-- PROBE_TIMEOUT (R151): No frame returns within the loss time after the probe's transmission end, so the probe ends NOT_RETURNED. -/
  | probeTimeout (c : Fin 8)
  /-- POINTS_SITE_REACHABILITY (R11): The Point Store takes a site reachability change, failing the site's points or setting its resync flag. -/
  | pointsSiteReachability (site : Fin 16)
  /-- ACTION_SITE_REACHABILITY (R78): The Action Pool takes a site reachability change and re-evaluates the site's actions. -/
  | actionSiteReachability (site : Fin 16)
  /-- STALENESS_EXPIRY (R7): A GOOD, LIMITED or RESTORING point's sample age exceeds its staleness limit and it becomes STALE. -/
  | stalenessExpiry (p : Fin 192)
  /-- FAILURE_LIMIT_EXPIRY (R7): A STALE point's sample age exceeds four times its staleness limit and it becomes FAILED. -/
  | failureLimitExpiry (p : Fin 192)
  /-- SCHEME_CHANGE_NOTICES (R40): The Arming Evaluator takes a batch of change notices and evaluates each reached scheme that can be evaluated. -/
  | schemeChangeNotices (k : Nat)
  /-- ACTION_CHANGE_NOTICES (R77): The Action Pool takes a batch of change notices, recomputes credits and re-evaluates availability. -/
  | actionChangeNotices
  /-- CHECK_POINT_MESSAGES (R25): The Contingency Detector takes a batch of value transitions and quality notices as evidence, term judgement or clearing judgement. -/
  | checkPointMessages
  /-- WINDOW_EXPIRY (R31): A PENDING contingency's window passes with a term unsatisfied; it returns to CLEAR, releases its schemes and reports. -/
  | windowExpiry (k : Fin 32)
  /-- FREEZE_REQUEST (R61): The Arming Evaluator sets a scheme's frozen flag, stops its dwell and holds its record. -/
  | freezeRequest (sch : Fin 16)
  /-- FREEZE_RELEASE (R62): The Arming Evaluator clears the frozen flag and, where the scheme can resume, evaluates, judges and requests a rescan. -/
  | freezeRelease (sch : Fin 16)
  /-- PENDING_NOTICE (R71): The Arming Evaluator takes whether any contingency is PENDING and recomputes the corridor alert. -/
  | pendingNotice
  /-- FIRST_EVIDENCE_NOTICE (R164): The Bank Store takes a first-evidence notice; a PREPARING switch aborts to PENDING. -/
  | firstEvidenceNotice (k : Fin 32)
  /-- QUIESCENCE_NOTICE (R162): The Bank Store judges quiescence for a PENDING switch and may enter PREPARING. -/
  | quiescenceNotice
  /-- HAND_OFF (R102): The Trip Dispatcher takes a hand-off and puts the start query, reporting DETECTED_NOT_ARMED or starting an execution. -/
  | handOff (sch : Fin 16)
  /-- HAND_OFF_ANSWER (R32): The Contingency Detector takes a STARTED or NOT_STARTED answer, adjusts the live count and withdraws its freeze request. -/
  | handOffAnswer (sch : Fin 16)
  /-- EXECUTION_END_NOTICE (R33): The Contingency Detector lowers the live execution count and may clear a clear-ready contingency. -/
  | executionEndNotice (sch : Fin 16)
  /-- SERVICE_EXECUTION_END (R65): At the end of a SERVICE execution the scheme becomes LATCHED. -/
  | serviceExecutionEnd (sch : Fin 16)
  /-- TEST_EXECUTION_END (R66): At the end of a TEST execution the scheme returns to its pre-execution state and is treated as released. -/
  | testExecutionEnd (sch : Fin 16)
  /-- ARM_DWELL_EXPIRY (R57): An ARMING scheme's arm dwell ends and the scheme becomes ARMED. -/
  | armDwellExpiry (sch : Fin 16)
  /-- DISARM_DWELL_EXPIRY (R57): A DISARMING scheme's disarm dwell ends and the scheme becomes DISARMED. -/
  | disarmDwellExpiry (sch : Fin 16)
  /-- SCHEME_STATE_NOTICE (R92): The Selection Engine takes a scheme's new arm state, enable and mode, drops its routine work where needed and recomputes the arm images. -/
  | schemeStateNotice (sch : Fin 16)
  /-- FREEZE_NOTICE (R92): The Selection Engine removes or abandons a frozen scheme's routine work and sets its held-rescan flag. -/
  | freezeNotice (sch : Fin 16)
  /-- FREEZE_RELEASE_NOTICE (R92): The Selection Engine clears the held-rescan flag and stops treating the scheme as frozen. -/
  | freezeReleaseNotice (sch : Fin 16)
  /-- RESCAN_REQUEST (R89): The Selection Engine holds, drops, restarts, marks or queues a routine scan for a scheme. -/
  | rescanRequest (sch : Fin 16) (src : RescanSource)
  /-- ROUTINE_SCAN_STEP (R86): A routine scan examines one action, and at completion publishes and starts the next piece of work. -/
  | routineScanStep
  /-- SHADOW_SCAN_STEP (R95): A shadow scan examines one action in the staged view and stores its result as the shadow selection. -/
  | shadowScanStep
  /-- SHADOW_REQUEUE (R95): The Selection Engine takes a requeue for a scheme's shadow scan: restart, mark or queue. -/
  | shadowRequeue (sch : Fin 16)
  /-- COVER_REQUEST (R89): The Selection Engine queues an execution's cover request and suspends any running routine or shadow scan. -/
  | coverRequest (sch : Fin 16)
  /-- COVER_SCAN_STEP (R93): A cover scan examines one candidate for the deficit, and at its end hands its list to the Trip Dispatcher. -/
  | coverScanStep
  /-- COVER_CANCEL (R94): A cover request is removed from the queue, or its running scan is abandoned. -/
  | coverCancel (sch : Fin 16)
  /-- COVER_SCAN_STARTED (R115): The Trip Dispatcher learns that its cover scan has started, and the cover state becomes RUNNING. -/
  | coverScanStarted (sch : Fin 16)
  /-- COVER_HANDOVER (R115): The Trip Dispatcher walks a cover list into commits and orders, then recomputes the deficit. -/
  | coverHandover (sch : Fin 16)
  /-- SHADOW_COMPLETE_NOTICE (R165): The Bank Store takes the shadow-complete notice and commits the bank if the part is quiescent, otherwise returns the switch to PENDING. -/
  | shadowCompleteNotice
  /-- OUTCOME_NOTICE (R81): The Action Pool takes an order's final outcome and moves its COMMITTED action. -/
  | outcomeNotice (a : Fin 96) (serial : Nat) (outcome : FinalState) (mode : Mode)
  /-- LATE_CONFIRMATION_NOTICE (R81): The Action Pool makes the action of a late-confirmed SERVICE order TRIPPED where it still carries that serial. -/
  | lateConfirmationNotice (a : Fin 96)
  /-- ORDER_TIMEOUT_ATTEMPT_1 (R111): A SENT order's timeout ends; it is rerouted to the site's other channel or fails. -/
  | orderTimeoutAttempt1 (serial : Nat)
  /-- ORDER_TIMEOUT_ATTEMPT_2 (R112): A transmitted REROUTED order's timeout ends and it fails. -/
  | orderTimeoutAttempt2 (serial : Nat)
  /-- ATTEMPT_LOST (R113): The Trip Dispatcher takes a channel loss notice and treats each affected live attempt as timed out or failed. -/
  | attemptLost (c : Fin 8)
  /-- EXECUTION_DEADLINE (R120): An execution's deadline is reached; live orders are withdrawn or expired, cover is cancelled and the execution ends EXPIRED. -/
  | executionDeadline (sch : Fin 16)
  /-- ARM_IMAGE_REPLY_TIMEOUT (R97): An AWAITING image's reply timeout ends; the image is resent, or becomes UNCONFIRMED after three sends. -/
  | armImageReplyTimeout (site : Fin 16)
  /-- DELIMITER_FOUND (R191): In the hunt, a C5h followed by 3Ah is recognised as a delimiter, and the receiver leaves the hunt to collect a header (on the host line, the 2 ms gap timing of R172 begins). -/
  | delimiterFound (rx : Receiver) (bytes : List Byte)
deriving DecidableEq, Repr

end Sys2Proof
end

