-- ==== Sys2Proof/WellFormed.lean ====
section
/-! DEFINITION. The checks on a command's operands that their types do not make: how many bytes a
receiver can be handed at once, and which numbers an order serial can have. -/

namespace Sys2Proof

/-- A frame body: 0 to 120 words, whole (Table 11-1). -/
def bodyWellFormed (payload : List Byte) : Bool :=
  payload.length % 2 == 0 && payload.length ≤ 2 * Config.payloadLimit

/-- An order serial is 1 to 65535 (Table 6-2). -/
def serialWellFormed (serial : Nat) : Bool :=
  1 ≤ serial && serial ≤ 65535

/-- The operands of a command are ones that the part can meet. -/
def Instr.wellFormed : Instr → Bool
  | .powerOnReset _ => true
  | .headerDecode _ bytes => bytes.length ≤ 4
  | .hostRequestArrival payload _ => bodyWellFormed payload
  | .hostByteGap => true
  | .replyTransmitted => true
  | .refusalTransmitted => true
  | .ident => true
  | .stageOpen => true
  | .stageWrite => true
  | .stageSeal => true
  | .bankSwitch => true
  | .bankCancel => true
  | .bankRead => true
  | .schemeSetEnable => true
  | .schemeSetDisable => true
  | .schemeSetBlock => true
  | .schemeSetUnblock => true
  | .schemeSetService => true
  | .schemeSetTest => true
  | .schemeReset => true
  | .contingencyReset => true
  | .actionSetBlock => true
  | .actionSetRestore => true
  | .pointPut => true
  | .pointSubst => true
  | .pointRelease => true
  | .statusGetScheme => true
  | .statusGetSelection => true
  | .statusGetContingency => true
  | .statusGetAction => true
  | .statusGetPoint => true
  | .statusGetChannelSummary => true
  | .statusGetSite => true
  | .statusGetOrderTable => true
  | .statusGetBankStatus => true
  | .statusGetCorridorTime => true
  | .reportFetch => true
  | .channelSetEnable => true
  | .channelSetDisable => true
  | .channelSetLoopback => true
  | .channelSetNormal => true
  | .channelSetReset => true
  | .channelProbe => true
  | .engineRestart => true
  | .restartComplete => true
  | .channelFrameComplete _ payload _ => bodyWellFormed payload
  | .receiveBufferCheck _ => true
  | .siteSamplesTaken _ => true
  | .pollAnswer _ => true
  | .indicationTaken _ => true
  | .tripAckTaken _ => true
  | .armAckTaken _ => true
  | .transmissionEnd _ => true
  | .pollDue _ => true
  | .pollCycleStart _ => true
  | .pollReplyTimeout _ _ => true
  | .lossTimeExpiry _ => true
  | .corridorAlertDelivery _ => true
  | .settleTimeExpiry _ => true
  | .revertDelayExpiry _ => true
  | .liveOrderNotice _ => true
  | .probeTimeout _ => true
  | .pointsSiteReachability _ => true
  | .actionSiteReachability _ => true
  | .stalenessExpiry _ => true
  | .failureLimitExpiry _ => true
  | .schemeChangeNotices _ => true
  | .actionChangeNotices => true
  | .checkPointMessages => true
  | .windowExpiry _ => true
  | .freezeRequest _ => true
  | .freezeRelease _ => true
  | .pendingNotice => true
  | .firstEvidenceNotice _ => true
  | .quiescenceNotice => true
  | .handOff _ => true
  | .handOffAnswer _ => true
  | .executionEndNotice _ => true
  | .serviceExecutionEnd _ => true
  | .testExecutionEnd _ => true
  | .armDwellExpiry _ => true
  | .disarmDwellExpiry _ => true
  | .schemeStateNotice _ => true
  | .freezeNotice _ => true
  | .freezeReleaseNotice _ => true
  | .rescanRequest _ _ => true
  | .routineScanStep => true
  | .shadowScanStep => true
  | .shadowRequeue _ => true
  | .coverRequest _ => true
  | .coverScanStep => true
  | .coverCancel _ => true
  | .coverScanStarted _ => true
  | .coverHandover _ => true
  | .shadowCompleteNotice => true
  | .outcomeNotice _ serial _ _ => serialWellFormed serial
  | .lateConfirmationNotice _ => true
  | .orderTimeoutAttempt1 serial => serialWellFormed serial
  | .orderTimeoutAttempt2 serial => serialWellFormed serial
  | .attemptLost _ => true
  | .executionDeadline _ => true
  | .armImageReplyTimeout _ => true
  | .delimiterFound _ _ => true

end Sys2Proof
end

