-- ==== Sys2Proof/Decode.lean ====
section
/-! DEFINITION. The table gives no row bits: no word spells a command of the part. -/

namespace Sys2Proof

/-- The command that a word of `nbits` bits spells by the table's bits. No row of the table has
bits, so no word spells one. -/
def decodeTableWord (_nbits _w : Nat) : Option Instr := none

end Sys2Proof
end

