-- ==== Sys2Proof/Machine/State.lean ====
section
/-! DEFINITION. The state of the part as plain data, the reasons a step can stop, and the state
right after power-on reset. Every definition record, dynamic record, queue and flag that chapters 1
to 11 name has a field here; what is only a count or a sum over other fields is computed from them. -/

namespace Sys2Proof.Machine

/-! ## Configuration records (chapters 1, 2, 4, 5, 7, 8; layouts of chapter 11) -/

/-- A point's source (Table 1-1): a site and slot, or LOCAL. -/
inductive Source where
  | slot (site slot : Nat)
  | loc
deriving DecidableEq, Repr

/-- What an analog point supplies when it is FAILED (R14). -/
inductive FailPolicy where
  | hold
  | zero
  | worst
deriving DecidableEq, Repr

/-- A status value (Table 1-1, coded in section 11.2). -/
inductive StatusVal where
  | opened
  | closed
  | invalid
deriving DecidableEq, Repr

/-- Definition of an analog point (Table 1-1). Times are in ms, values in counts of 0.1 MW. -/
structure AnalogDef where
  source : Source
  staleness : Nat
  lo : Int
  hi : Int
  policy : FailPolicy
  restoreNeeded : Nat
deriving DecidableEq, Repr

/-- Definition of a status point (1.1). -/
structure StatusDef where
  source : Source
  staleness : Nat
  restoreNeeded : Nat
deriving DecidableEq, Repr

/-- One term of a contingency (Table 2-1). -/
structure TermDef where
  indication : Option (Nat × Nat)
  check : Option Nat
  outage : StatusVal
deriving DecidableEq, Repr

/-- Confirmation mode (Table 2-1). -/
inductive ConfirmMode where
  | any
  | both
deriving DecidableEq, Repr

/-- Definition of a contingency (Table 2-1). `ignored` keeps the words of list entries beyond the
count as they were written (log 10). -/
structure ContingencyDef where
  terms : List TermDef
  mode : ConfirmMode
  window : Nat
  ignored : List Word
deriving DecidableEq, Repr

/-- One weighted input of a scheme (Table 3-1). -/
structure InputDef where
  point : Nat
  weight : Int
deriving DecidableEq, Repr

/-- Definition of a scheme (Tables 3-1 and 4-1). -/
structure SchemeDef where
  trigger : Nat
  inputs : List InputDef
  curve : List (Int × Nat)
  margin : Nat
  armOn : Int
  armOff : Int
  armDwell : Nat
  disarmDwell : Nat
  deadline : Nat
  overshoot : Nat
  mandatory : List Nat
  initialEnable : Bool
  initialMode : Mode
  ignoredInputs : List Word
  ignoredCurve : List Word
  ignoredMandatory : List Word
deriving DecidableEq, Repr

/-- Kind of an action (Table 5-1). -/
inductive ActionKind where
  | genDrop
  | loadShed
  | switch
deriving DecidableEq, Repr

/-- An action's MW source (Table 5-1). -/
inductive MwSource where
  | fixed (value : Nat)
  | point (number : Nat)
deriving DecidableEq, Repr

/-- Definition of an action (Table 5-1). `eligible` has bit n for scheme n (Table 11-5). -/
structure ActionDef where
  kind : ActionKind
  site : Nat
  output : Nat
  source : MwSource
  minCredit : Nat
  threshold : Nat
  rank : Nat
  eligible : Word
deriving DecidableEq, Repr

/-- Definition of a site (Table 7-3). -/
structure SiteDef where
  primary : Nat
  alternate : Option Nat
deriving DecidableEq, Repr

/-- Definition of a channel (Table 7-1); times in ms. -/
structure ChannelDef where
  enabled : Bool
  lossTime : Nat
  acquireNeeded : Nat
  degradeThreshold : Nat
  replyTimeout : Nat
  missedLimit : Nat
  confirmTimeout : Nat
deriving DecidableEq, Repr

/-- The global parameters (Table 7-2); times in ms. -/
structure ParamsDef where
  relaxedPeriod : Nat
  briskPeriod : Nat
  settleTime : Nat
  revertDelay : Nat
deriving DecidableEq, Repr

/-- State of a bank (Table 8-2). -/
inductive BankState where
  | empty
  | opened
  | sealed
  | rejected
deriving DecidableEq, Repr

/-- The record classes of Table 8-1. -/
inductive RecordClass where
  | point
  | contingency
  | scheme
  | action
  | site
  | channel
  | parameters
deriving DecidableEq, Repr

/-- The seal checks of Table 8-4. -/
inductive SealCheck where
  | reference
  | curveOrder
  | armLevels
  | mandatory
  | siteChannels
  | slotClash
  | timing
  | trigger
deriving DecidableEq, Repr

/-- The record of a seal failure (R158). -/
structure SealFailure where
  cls : RecordClass
  index : Nat
  check : SealCheck
deriving DecidableEq, Repr

/-- A bank (Table 8-2): 361 records, each DEFINED with its fields or UNDEFINED (`none`). -/
structure Bank where
  analog : Vector (Option AnalogDef) 64
  status : Vector (Option StatusDef) 128
  contingency : Vector (Option ContingencyDef) 32
  scheme : Vector (Option SchemeDef) 16
  action : Vector (Option ActionDef) 96
  site : Vector (Option SiteDef) 16
  channel : Vector (Option ChannelDef) 8
  params : Option ParamsDef
  label : Word
  check : Option (BitVec 32)
  state : BankState
  sealFailure : Option SealFailure
deriving DecidableEq, Repr

/-- An EMPTY bank (R155). -/
def Bank.empty : Bank where
  analog := Vector.replicate 64 none
  status := Vector.replicate 128 none
  contingency := Vector.replicate 32 none
  scheme := Vector.replicate 16 none
  action := Vector.replicate 96 none
  site := Vector.replicate 16 none
  channel := Vector.replicate 8 none
  params := none
  label := 0
  check := none
  state := .empty
  sealFailure := none

/-! ## Point Store (chapter 1) -/

/-- Quality of a point (Table 1-2). -/
inductive Quality where
  | good
  | limited
  | stale
  | failed
  | restoring
  | substituted
deriving DecidableEq, Repr

/-- Where a restoration began (Table 1-1). -/
inductive Origin where
  | stale
  | failed
deriving DecidableEq, Repr

/-- Dynamic fields of a point (Table 1-1) with values of type `V`. A status point has no clamped
flag: its field stays clear. -/
structure Point (V : Type) where
  value : V
  held : V
  clamped : Bool
  quality : Quality
  lastSample : Time
  progress : Nat
  origin : Option Origin
  subst : Option V
  neverUpdated : Bool
deriving DecidableEq, Repr

/-- The per-site telemetry sequence filter (R3), with the site's reachability as last delivered to the
Point Store (R3, R11). -/
structure SiteSeq where
  last : Byte
  resync : Bool
  reach : Bool
deriving DecidableEq, Repr

structure PointStore where
  analog : Vector (Option (Point Int)) 64
  status : Vector (Option (Point StatusVal)) 128
  seq : Vector SiteSeq 16
deriving DecidableEq, Repr

/-- The staged views of the points that the staged bank defines, as the Point Store last delivered them while
the switch is PREPARING (R21); none otherwise. -/
structure StagedPoints where
  analog : Vector (Option (Point Int)) 64
  status : Vector (Option (Point StatusVal)) 128
deriving DecidableEq, Repr

/-- No staged view (R21). -/
def StagedPoints.none : StagedPoints := ⟨Vector.replicate 64 .none, Vector.replicate 128 .none⟩

/-- What an analog point supplies (R14): a value, or under WORST the pair lo and hi. -/
inductive UsedValue where
  | num (v : Int)
  | worst (lo hi : Int)
deriving DecidableEq, Repr

/-! ## Contingency Detector (chapter 2) -/

/-- State of a contingency (Table 2-2). -/
inductive ContingencyState where
  | clear
  | pending
  | held
deriving DecidableEq, Repr

/-- A term's evidence (Table 2-2): each flag is set with the time it was set. -/
structure TermRec where
  indicationSeen : Option Time
  checkSeen : Option Time
  satisfied : Bool
  degraded : Bool
deriving DecidableEq, Repr

def TermRec.empty : TermRec := ⟨none, none, false, false⟩

/-- Dynamic record of a contingency (Table 2-2), with the freeze requests the Detector holds for its
schemes (R28) and the hand-offs that await their answer (R32). -/
structure Contingency where
  state : ContingencyState
  firstEvidence : Option Time
  windowEnd : Option Time
  terms : List TermRec
  detectTime : Option Time
  degraded : Bool
  liveCount : Nat
  clearReady : Bool
  requests : List Nat
  awaiting : List Nat
deriving DecidableEq, Repr

/-! ## Arming Evaluator (chapters 3 and 4) -/

/-- Arm state of a scheme (Table 4-2). -/
inductive ArmState where
  | disarmed
  | arming
  | armed
  | disarming
  | executing
  | latched
deriving DecidableEq, Repr

/-- Reported state of a scheme (R59): OFF while enable is OFF, otherwise the arm state. -/
inductive Reported where
  | off
  | on (arm : ArmState)
deriving DecidableEq, Repr

/-- Cause of an ARM_STATE report (R59). -/
inductive ArmCause where
  | evaluation
  | dwell
  | executionStart
  | executionEnd
  | schemeSet
  | schemeReset
  | restart
  | commit
deriving DecidableEq, Repr

inductive DwellKind where
  | arm
  | disarm
deriving DecidableEq, Repr

/-- A dwell runs to an end time, or stands stopped with counts of 0.1 ms remaining (Table 4-2). -/
inductive DwellTime where
  | running (ends : Time)
  | stopped (remaining : Nat)
deriving DecidableEq, Repr

structure Dwell where
  kind : DwellKind
  time : DwellTime
deriving DecidableEq, Repr

/-- Pre-execution state (Table 4-2): ARMED, or DISARMING with the disarm dwell's remaining time. -/
inductive PreExec where
  | armed
  | disarming (remaining : Nat)
deriving DecidableEq, Repr

/-- Curve position (R45). -/
inductive CurvePos where
  | below
  | segment (k : Nat)
  | above
deriving DecidableEq, Repr

/-- One input as an evaluation took it (R39). -/
structure InputTaken where
  value : Int
  quality : Quality
deriving DecidableEq, Repr

/-- Evaluation record (R39). -/
structure EvalRec where
  q : Int
  requirement : Nat
  degraded : Bool
  inputs : List InputTaken
  position : CurvePos
  time : Time
deriving DecidableEq, Repr

/-- Dynamic record of a scheme (Table 4-2). -/
structure Scheme where
  enable : Bool
  blocked : Bool
  mode : Mode
  arm : ArmState
  frozen : Bool
  dwell : Option Dwell
  preExec : Option PreExec
  stateTime : Time
  record : Option EvalRec
deriving DecidableEq, Repr

structure Evaluator where
  schemes : Vector (Option Scheme) 16
  prepared : Vector (Option EvalRec) 16
  anyPending : Bool
  alert : Bool
deriving DecidableEq, Repr

/-! ## Action Pool (chapter 5) -/

/-- Availability of an action (Table 5-3). -/
inductive Availability where
  | available
  | unavailableSite
  | offline
  | blocked
  | committed
  | tripped
  | uncertain
deriving DecidableEq, Repr

inductive BlockCause where
  | host
  | restart
deriving DecidableEq, Repr

/-- Dynamic record of an action (Table 5-2). -/
structure Action where
  avail : Availability
  credit : Nat
  mwQuality : Option Quality
  lastSerial : Option Nat
  blockCause : Option BlockCause
  committing : Option Nat
  stateTime : Time
deriving DecidableEq, Repr

/-- Staged view of an action (R95). -/
structure StagedAction where
  avail : Availability
  credit : Nat
deriving DecidableEq, Repr

structure Pool where
  actions : Vector (Option Action) 96
  siteReach : Vector Bool 16
  staged : Vector (Option StagedAction) 96
deriving DecidableEq, Repr

/-! ## Selection Engine (chapter 5) -/

/-- An entry of a selection: an action and its credit when the scan took it (Table 5-4). -/
structure SelEntry where
  action : Nat
  credit : Nat
deriving DecidableEq, Repr

/-- Termination of a scan (Table 5-4). -/
inductive Termination where
  | sufficient
  | exhausted
  | full
deriving DecidableEq, Repr

/-- A selection record (Table 5-4). The sum, the status and the deficit follow from the entries and
the requirement. -/
structure Selection where
  entries : List SelEntry
  requirement : Nat
  missing : Bool
  termination : Termination
  scanTime : Time
deriving DecidableEq, Repr

/-- Kind of an entry of the routine/shadow queue (R89). -/
inductive PlanKind where
  | routine
  | shadow
deriving DecidableEq, Repr

/-- Where a routine or shadow scan stands (R86, R87): the next mandatory action, the next candidate
of pass 1, or the next skipped action of pass 2. -/
inductive ScanPhase where
  | mandatory (next : Nat)
  | pass1 (next : Nat)
  | pass2 (next : Nat)
deriving DecidableEq, Repr

/-- A routine or shadow scan in work (R91). -/
structure PlanScan where
  kind : PlanKind
  scheme : Nat
  phase : ScanPhase
  list : List SelEntry
  skipped : List Nat
  requirement : Nat
  missing : Bool
deriving DecidableEq, Repr

/-- A cover scan in work (R93). -/
structure CoverScan where
  scheme : Nat
  deficit : Nat
  next : Nat
  list : List SelEntry
deriving DecidableEq, Repr

inductive Scan where
  | plan (p : PlanScan)
  | cover (c : CoverScan)
deriving DecidableEq, Repr

/-- The suspended scan with its mark for restart (R91). -/
structure Suspended where
  scan : PlanScan
  restart : Bool
deriving DecidableEq, Repr

structure CoverReq where
  scheme : Nat
  deficit : Nat
deriving DecidableEq, Repr

structure QueueEntry where
  kind : PlanKind
  scheme : Nat
deriving DecidableEq, Repr

/-- A scheme as the Engine holds it from the notices it has been sent (R89). -/
structure SchemeView where
  enable : Bool
  arm : ArmState
  mode : Mode
  frozen : Bool
deriving DecidableEq, Repr

/-- Confirmation state of a site arm image (R97). The timeout end is present while the reply timeout
runs. -/
inductive ImageState where
  | confirmed
  | awaiting (sends : Nat) (timeout : Option Time)
  | unconfirmed
deriving DecidableEq, Repr

/-- A site arm image (R96). -/
structure Image where
  codes : List Nat
  version : Byte
  conf : ImageState
deriving DecidableEq, Repr

structure Engine where
  known : Vector SchemeView 16
  held : Vector Bool 16
  cover : List CoverReq
  queue : List QueueEntry
  running : Option Scan
  suspended : Option Suspended
  published : Vector (Option Selection) 16
  shadow : Vector (Option Selection) 16
  images : Vector Image 16
deriving DecidableEq, Repr

/-! ## Trip Dispatcher (chapter 6) -/

/-- Cover state of an execution (Table 6-1). -/
inductive CoverState where
  | none
  | requested
  | running
deriving DecidableEq, Repr

/-- Execution record (Table 6-1). The counts and credits of its orders are computed from the order
table, where they stay until the execution ends (R101). -/
structure Exec where
  contingency : Nat
  detectTime : Time
  startTime : Time
  deadline : Time
  requirement : Nat
  mode : Mode
  entriesLost : Nat
  cover : CoverState
  recheck : Bool
  exhausted : Bool
  degraded : Bool
  coldStart : Bool
  tableFull : Bool
  coverUsed : Bool
  mandatoryMissing : Bool
deriving DecidableEq, Repr

/-- State of a trip order (Table 6-3). -/
inductive OrderState where
  | queued
  | sent
  | rerouted
  | final (f : FinalState)
deriving DecidableEq, Repr

/-- Origin of a trip order (Table 6-2). -/
inductive OrderOrigin where
  | selection
  | mandatory
  | cover
deriving DecidableEq, Repr

/-- Trip order record (Table 6-2). -/
structure Order where
  serial : Nat
  action : Nat
  site : Nat
  output : Nat
  credit : Nat
  scheme : Nat
  origin : OrderOrigin
  attempt : Nat
  channel : Nat
  firstChannel : Nat
  state : OrderState
  creation : Time
  sendTime : Option Time
  timeoutEnd : Option Time
  outcomeTime : Option Time
  late : Bool
  mismatch : Bool
deriving DecidableEq, Repr

structure Dispatcher where
  execs : Vector (Option Exec) 16
  orders : List Order
  nextSerial : Nat
deriving DecidableEq, Repr

/-! ## Channel Units (chapter 7) -/

/-- State of a channel (Table 7-4). -/
inductive ChannelState where
  | disabled
  | acquiring
  | up
  | degraded
  | down
  | loopback
deriving DecidableEq, Repr

/-- Cause of a CHANNEL_STATE report (R129). -/
inductive ChannelCause where
  | acquired
  | degrade
  | recover
  | loss
  | heard
  | host
  | reset
  | commit
deriving DecidableEq, Repr

/-- Cause of a loss notice (R113). -/
inductive LossCause where
  | down
  | disabled
  | reset
  | loopback
deriving DecidableEq, Repr

/-- A readable header (Table 11-1), after correction. -/
structure Header where
  kind : Nat
  reply : Bool
  test : Bool
  address : Nat
  sequence : Nat
  length : Nat
  corrected : Bool
deriving DecidableEq, Repr

/-- A receiver (R191, R192): in the hunt with the bytes still to be examined, collecting a header, or
collecting the payload and CRC of a frame whose header was readable. -/
inductive RxState where
  | hunt (bytes : List Byte)
  | header (got : List Byte)
  | body (h : Header)
deriving DecidableEq, Repr

/-- Who has still to take the content of a delivered frame (R136). -/
inductive Owner where
  | pointStore
  | pollTracking
  | detector
  | dispatcher
  | engine
deriving DecidableEq, Repr

/-- A completed frame in a receive buffer (R136): not yet checked, or delivered with the owners that
have still to take it. -/
structure RxFrame where
  header : Header
  payload : List Byte
  crc : Word
  owners : Option (List Owner)
deriving DecidableEq, Repr

/-- A frame of the part's own (Table 11-3), with the site it is for. -/
inductive TxFrame where
  | poll (site : Nat)
  | trip (site serial output scheme attempt : Nat) (test : Bool)
  | armSet (site : Nat) (version : Byte) (codes : List Nat)
  | probe (words : List Word)
deriving DecidableEq, Repr

/-- The frame in transmission with its sequence. `orphan` marks a POLL whose site record has been
cleared since (R139). -/
structure Sending where
  frame : TxFrame
  sequence : Nat
  orphan : Bool
deriving DecidableEq, Repr

/-- Cadence of a channel (R142): BRISK keeps the start of a running settle time, or the return mark. -/
inductive Cadence where
  | relaxed
  | brisk (settleStart : Option Time) (returnMark : Bool)
deriving DecidableEq, Repr

/-- The current poll cycle (R141): its start, the next position and its period in 0.1 ms. -/
structure PollCycle where
  start : Time
  position : Nat
  period : Nat
deriving DecidableEq, Repr

inductive ProbePhase where
  | queued
  | sending
  | waiting (ended : Time)
deriving DecidableEq, Repr

/-- The probe in progress (R151). -/
structure Probe where
  words : List Word
  phase : ProbePhase
deriving DecidableEq, Repr

/-- Dynamic record of a channel (Table 7-4), its receiver, and the corridor alert as last delivered to
it (R142). The quality window holds `true` for GOOD and `false` for BAD, oldest first. -/
structure Channel where
  state : ChannelState
  window : List Bool
  progress : Nat
  lastGood : Time
  rx : RxState
  buffers : List RxFrame
  queue : List TxFrame
  tx : Option Sending
  outSeq : Nat
  cadence : Cadence
  cycle : Option PollCycle
  alert : Bool
  probe : Option Probe
deriving DecidableEq, Repr

/-- A site's poll on a channel (Table 7-5). -/
inductive PollState where
  | none
  | queued
  | awaiting (timeout : Time)
deriving DecidableEq, Repr

/-- Record of a site on a channel (Table 7-5). -/
structure Link where
  reachable : Bool
  missed : Nat
  poll : PollState
  seqRef : Option Nat
deriving DecidableEq, Repr

def Link.clear : Link := ⟨false, 0, .none, none⟩

/-- A site's route (Table 7-5), with its channel. -/
inductive Route where
  | none
  | primary (c : Nat)
  | alternate (c : Nat)
deriving DecidableEq, Repr

/-- Cause of a ROUTE_CHANGE report (R147). -/
inductive RouteCause where
  | failover
  | revert
  | ret
  | lost
  | found
  | commit
deriving DecidableEq, Repr

/-- Per-site record (Table 7-5). -/
structure Site where
  reach : Bool
  route : Route
  stableSince : Option Time
  liveOrders : Nat
deriving DecidableEq, Repr

structure ChannelUnits where
  channels : Vector Channel 8
  sites : Vector Site 16
  links : Vector (Vector Link 16) 8
deriving DecidableEq, Repr

/-! ## Bank Store (chapter 8) -/

/-- Switch state (Table 8-5). -/
inductive SwitchState where
  | idle
  | pending
  | preparing
deriving DecidableEq, Repr

structure BankStore where
  active : Bank
  staged : Bank
  switch : SwitchState
  requested : Option Word
  carry : Vector (Option Reported) 16
deriving DecidableEq, Repr

/-! ## Host Message Port (chapter 9) -/

/-- Reason codes of a reply (R176). -/
inductive Reason where
  | none
  | badState
  | outOfRange
  | noItem
  | busy
  | badKind
  | badFrame
  | bankLocked
  | checkFailed
deriving DecidableEq, Repr

/-- How far a request has come (R174, R175). -/
inductive RequestStage where
  | waiting
  | running
  | replied
deriving DecidableEq, Repr

/-- An entry of the request queue (R174). -/
structure Request where
  kind : Nat
  tag : Nat
  words : List Word
  stage : RequestStage
deriving DecidableEq, Repr

/-- A reply in the transmit order (R176, R177): `immediate` marks an immediate refusal (R173). -/
structure Reply where
  kind : Nat
  tag : Nat
  reason : Reason
  content : List Word
  immediate : Bool
deriving DecidableEq, Repr

/-- A restart being carried out (R181): executions and live orders abandoned. -/
structure RestartRun where
  execs : Nat
  orders : Nat
deriving DecidableEq, Repr

structure Port where
  straps : BitVec 2
  rx : RxState
  requests : List Request
  replies : List Reply
  restart : Option RestartRun
deriving DecidableEq, Repr

/-! ## Report Queue (chapter 10) -/

/-- Report kinds (Table 10-2), in the order of their codes (Table 11-7). -/
inductive ReportKind where
  | contingencyDetected
  | executionStart
  | orderOutcome
  | executionEnd
  | detectedNotArmed
  | lateTrip
  | engineRestart
  | contingencyUnconfirmed
  | armState
  | selectionChange
  | pointQuality
  | channelState
  | routeChange
  | siteReachability
  | armImageUnconfirmed
  | bankEvent
  | rxOverrun
deriving DecidableEq, Repr

/-- A report as a block offers it, and with its gap flag as a record of the queue (Table 10-1). -/
structure Report where
  kind : ReportKind
  gap : Bool
  test : Bool
  time : Time
  subject : Nat
  details : List Word
deriving DecidableEq, Repr

structure ReportQueue where
  records : List Report
  gapAny : Bool
  gapRoutine : Bool
deriving DecidableEq, Repr

/-! ## Messages between blocks -/

/-- A change notice for an analog point (R16). `worst` is there for a point whose fail policy is WORST: the policy
with its lo and hi, whatever the used value. -/
structure PointNotice where
  point : Nat
  quality : Quality
  used : UsedValue
  worst : Option (Int × Int)
deriving DecidableEq, Repr

/-- A message for a check point (R17). -/
inductive CheckMsg where
  | transition (point : Nat) (old new : StatusVal) (tag : Quality)
  | quality (point : Nat) (q : Quality) (recorded used : StatusVal)
deriving DecidableEq, Repr

/-- A message that one block has sent and another has not yet taken. -/
inductive Msg where
  | schemeChange (batch : List PointNotice)
  | actionChange (batch : List PointNotice)
  | checkPoint (batch : List CheckMsg)
  | pointsReach (site : Nat) (reach : Bool)
  | actionReach (site : Nat) (reach : Bool)
  | alert (c : Nat) (value : Bool)
  | liveOrder (site : Nat) (created : Bool)
  | loss (c : Nat) (cause : LossCause)
  | freezeReq (sch : Nat)
  | freezeRel (sch : Nat)
  | pendingNote (any : Bool)
  | firstEvidence (k : Nat)
  | quiescence
  | handOff (k sch : Nat) (detect : Time) (degraded : Bool)
  | handOffAnswer (k sch : Nat) (started : Bool)
  | execEnd (k sch : Nat)
  | schemeEnd (sch : Nat) (mode : Mode)
  | schemeState (sch : Nat) (enable : Bool) (arm : ArmState) (mode : Mode)
  | freezeNote (sch : Nat)
  | freezeRelNote (sch : Nat)
  | rescan (sch : Nat) (src : RescanSource)
  | shadowRequeue (sch : Nat)
  | coverReq (sch deficit : Nat)
  | coverCancel (sch : Nat)
  | coverStarted (sch : Nat)
  | coverHandover (sch : Nat) (list : List SelEntry)
  | shadowComplete
  | lateConfirm (action serial : Nat) (mode : Mode)
deriving DecidableEq, Repr

/-! ## The state -/

/-- The state of the part: corridor time, its blocks, the messages between them, and the commands
that wait. -/
structure State where
  now : Time
  banks : BankStore
  points : PointStore
  views : StagedPoints
  detector : Vector (Option Contingency) 32
  evaluator : Evaluator
  pool : Pool
  engine : Engine
  dispatcher : Dispatcher
  units : ChannelUnits
  port : Port
  reports : ReportQueue
  inflight : List Msg
  pending : List Instr
deriving DecidableEq, Repr

/-- Reasons a step can stop with a fault. The part has none: a bad frame or request is answered by an
outcome or a refusal in its reply (R130, R173), and every command answers a next state. -/
inductive Fault where
deriving DecidableEq, Repr

/-- Reasons a command has no meaning here. -/
inductive Refusal where
  /-- Raised by `exec` for a command that has no meaning yet. Safe: the model stops. -/
  | notModelled (mnemonic : String)
deriving DecidableEq, Repr

/-! ## Reset -/

/-- A channel at power-on (R128). The poll cycle is absent, since a DISABLED channel polls nothing
(R141). DESIGN CHOICE (log 35): acquire progress 0 and last good time 0. -/
def Channel.reset : Channel where
  state := .disabled
  window := []
  progress := 0
  lastGood := 0
  rx := .hunt []
  buffers := []
  queue := []
  tx := none
  outSeq := 0
  cadence := .relaxed
  cycle := none
  alert := false
  probe := none

/-- The scheme view the Engine starts from, before any notice (log 35). -/
def SchemeView.off : SchemeView := ⟨false, .disarmed, .service, false⟩

/-- An image at power-on (R96). -/
def Image.reset : Image := ⟨[], 0, .unconfirmed⟩

/-- A site at power-on (R128). -/
def Site.reset : Site := ⟨false, .none, none, 0⟩

/-- The part right after a power-on reset that read the straps `straps` (R155, R19, R37, R54, R76,
R89, R96, R101, R128, R183, R184). -/
def State.powerOn (straps : BitVec 2) : State where
  now := 0
  banks := ⟨Bank.empty, Bank.empty, .idle, none, Vector.replicate 16 none⟩
  points := ⟨Vector.replicate 64 none, Vector.replicate 128 none, Vector.replicate 16 ⟨0, true, false⟩⟩
  views := StagedPoints.none
  detector := Vector.replicate 32 none
  evaluator := ⟨Vector.replicate 16 none, Vector.replicate 16 none, false, false⟩
  pool := ⟨Vector.replicate 96 none, Vector.replicate 16 false, Vector.replicate 96 none⟩
  engine :=
    { known := Vector.replicate 16 SchemeView.off
      held := Vector.replicate 16 false
      cover := []
      queue := []
      running := none
      suspended := none
      published := Vector.replicate 16 none
      shadow := Vector.replicate 16 none
      images := Vector.replicate 16 Image.reset }
  dispatcher := ⟨Vector.replicate 16 none, [], 1⟩
  units := ⟨Vector.replicate 8 Channel.reset, Vector.replicate 16 Site.reset,
    Vector.replicate 8 (Vector.replicate 16 Link.clear)⟩
  port := ⟨straps, .hunt [], [], [], none⟩
  reports := ⟨[], false, false⟩
  inflight := []
  pending := []

/-- The part right after reset. The level of the strap pins is the outside's: here both are low
(DESIGN CHOICE, log 6). -/
def State.reset : State := State.powerOn 0

end Sys2Proof.Machine
end

