-- ==== Sys2Proof/Machine/Ops.lean ====
section
/-! DEFINITION. Shared operations: corridor time, numbered records, messages between blocks, the
Report Queue, and the port's reply order. -/

namespace Sys2Proof.Machine

/-! ## Numbered records -/

/-- Item `i` of a table of optional records; an index outside the table names no record. -/
def rec? {α : Type} {n : Nat} (v : Vector (Option α) n) (i : Nat) : Option α :=
  (v[i]?).join

/-- Item `i` of a table that holds a record for every number. -/
def item {α : Type} {n : Nat} (v : Vector α n) (i : Nat) (d : α) : α :=
  (v[i]?).getD d

/-- The table with item `i` replaced. -/
def put {α : Type} {n : Nat} (v : Vector α n) (i : Nat) (x : α) : Vector α n :=
  v.setIfInBounds i x

/-! ## Corridor time (4.2) -/

/-- Counts of 0.1 ms in a configured time of `ms` milliseconds (4.2, 4.3). -/
def counts (ms : Nat) : Nat := ms * 10

/-- The time `n` counts after `t`, modulo 2^32. -/
def Time.after (t : Time) (n : Nat) : Time := t + BitVec.ofNat 32 n

/-- Counts from `t` to `now`, modulo 2^32. -/
def Time.age (now t : Time) : Nat := (now - t).toNat

/-- Corridor time has reached `t`: a difference is read as the shorter interval (4.2). -/
def Time.reached (now t : Time) : Bool := decide ((now - t).toNat < 2147483648)

/-- Counts that remain until `t`, 0 once it has been reached. -/
def Time.left (now t : Time) : Nat :=
  if Time.reached now t then 0 else (t - now).toNat

/-- Corridor time one count later (4.2). -/
def State.tick (s : State) : State := { s with now := s.now + 1 }

/-! ## Messages between blocks -/

def State.send (s : State) (m : Msg) : State := { s with inflight := s.inflight ++ [m] }

def State.sendAll (s : State) (ms : List Msg) : State := { s with inflight := s.inflight ++ ms }

/-- The messages that satisfy `p` are withdrawn. -/
def State.withdraw (s : State) (p : Msg → Bool) : State :=
  { s with inflight := s.inflight.filter (fun m => !p m) }

/-- Take the oldest message of a lane, if `f` reads it: messages of one lane are taken in the order
sent (log 3). Answers what `f` reads and the state without the message. -/
def State.take {α : Type} (s : State) (lane : Msg → Bool) (f : Msg → Option α) :
    Option (α × State) :=
  match s.inflight.find? lane with
  | none => none
  | some m =>
    match f m with
    | none => none
    | some a => some (a, { s with inflight := s.inflight.eraseP lane })

/-- Take the `k`-th oldest message that `f` reads. -/
def takeNth {α : Type} (f : Msg → Option α) : Nat → List Msg → Option (α × List Msg)
  | _, [] => none
  | k, m :: rest =>
    match f m, k with
    | some a, 0 => some (a, rest)
    | some _, k + 1 => (takeNth f k rest).map (fun r => (r.1, m :: r.2))
    | none, k => (takeNth f k rest).map (fun r => (r.1, m :: r.2))

/-- A message that satisfies `p` has been sent and not yet taken. -/
def State.inFlight (s : State) (p : Msg → Bool) : Bool := s.inflight.any p

/-! ## Report Queue (chapter 10) -/

/-- The EXECUTION class of Table 10-2; every other kind is ROUTINE. -/
def ReportKind.isExecution : ReportKind → Bool
  | .contingencyDetected => true
  | .executionStart => true
  | .orderOutcome => true
  | .executionEnd => true
  | .detectedNotArmed => true
  | .lateTrip => true
  | .engineRestart => true
  | .contingencyUnconfirmed => false
  | .armState => false
  | .selectionChange => false
  | .pointQuality => false
  | .channelState => false
  | .routeChange => false
  | .siteReachability => false
  | .armImageUnconfirmed => false
  | .bankEvent => false
  | .rxOverrun => false

def Report.isExecution (r : Report) : Bool := r.kind.isExecution

/-- The number of ROUTINE records (R184). -/
def ReportQueue.routineCount (q : ReportQueue) : Nat :=
  (q.records.filter (fun r => !r.isExecution)).length

/-- The number of EXECUTION records (R184). -/
def ReportQueue.executionCount (q : ReportQueue) : Nat :=
  (q.records.filter Report.isExecution).length

/-- Admission at the tail with the gap flag of R187. -/
def ReportQueue.admitTail (q : ReportQueue) (r : Report) : ReportQueue :=
  if r.isExecution then
    { q with records := q.records ++ [{ r with gap := q.gapAny }], gapAny := false }
  else
    { records := q.records ++ [{ r with gap := q.gapAny || q.gapRoutine }]
      gapAny := false, gapRoutine := false }

/-- A report is offered: R185 for ROUTINE, R186 for EXECUTION. -/
def ReportQueue.offer (q : ReportQueue) (r : Report) : ReportQueue :=
  if r.isExecution then
    if q.records.length < Config.reportLimit then q.admitTail r
    else if 0 < q.routineCount then
      { (ReportQueue.admitTail
          { q with records := q.records.eraseP (fun x => !x.isExecution) } r) with
        gapRoutine := true }
    else { q with gapAny := true }
  else if q.records.length < Config.reportLimit ∧ q.routineCount < Config.routineLimit then
    q.admitTail r
  else { q with gapAny := true }

/-- A block offers a report to the Report Queue and goes on, whatever the answer (R184). -/
def State.report (s : State) (r : Report) : State := { s with reports := s.reports.offer r }

/-- The five detail words of a report; unused words are 0 (Table 10-1). -/
def detailWords (ws : List Word) : List Word := (ws ++ [0, 0, 0, 0, 0]).take 5

/-- A report to be offered: its gap flag is decided at admission (R187). -/
def mkReport (kind : ReportKind) (test : Bool) (time : Time) (subject : Nat) (details : List Word) :
    Report :=
  ⟨kind, false, test, time, subject, detailWords details⟩

/-- ATTN is asserted while the Report Queue holds a record (R189). -/
def State.attn (s : State) : Bool := !s.reports.records.isEmpty

/-! ## Words of replies and reports (R190, R194, R195) -/

/-- The word of a count or number. A number above 65535 has no word: a free value (log 9). -/
def wordOf (n : Nat) : Word := if n < 65536 then BitVec.ofNat 16 n else Config.wideItem n

/-- The word of a credit or sum in a report, limited to 65535 (R122, R190, Table 11-7). -/
def wordCapped (n : Nat) : Word := BitVec.ofNat 16 (min n 65535)

/-- The word of a signed power quantity (4.1). -/
def wordSigned (v : Int) : Word := BitVec.ofInt 16 v

/-- A corridor time takes two words, the more significant first (R195, 4.6). -/
def wordsTime (t : Time) : List Word := [t.extractLsb' 16 16, t.extractLsb' 0 16]

/-- Two bytes packed into one word. -/
def wordPair (hi lo : Nat) : Word := BitVec.ofNat 16 ((hi % 256) * 256 + lo % 256)

def wordFlag (b : Bool) : Word := if b then 1 else 0

/-- An item that is absent (R194; log 8). -/
def wordAbsent : Word := 0xFFFF

/-- A set of numbers as a bit set (R190, R195). -/
def wordSet (xs : List Nat) : Word := xs.foldl (fun w i => w ||| (1 <<< i)) 0

/-! ## The port's requests and replies (R174 to R176) -/

/-- A reply is formed and joins the transmit order (R177). -/
def State.formReply (s : State) (r : Reply) : State :=
  { s with port := { s.port with replies := s.port.replies ++ [r] } }

/-- The number of immediate refusals that wait or are being transmitted (R173). -/
def Port.refusals (p : Port) : Nat := (p.replies.filter Reply.immediate).length

/-- An immediate refusal is formed, or discarded while two are kept (R173). -/
def State.refuseNow (s : State) (kind tag : Nat) (reason : Reason) : State :=
  if s.port.refusals < Config.refusalLimit then s.formReply ⟨kind, tag, reason, [], true⟩ else s

/-- The oldest entry at `stage` goes on to `next`. -/
def advanceRequest (stage next : RequestStage) : List Request → List Request
  | [] => []
  | r :: rest =>
    if r.stage = stage then { r with stage := next } :: rest
    else r :: advanceRequest stage next rest

/-- The request being carried out completes: its reply is formed (R175, R176). -/
def State.completeRunning (s : State) (reason : Reason) (content : List Word) : State :=
  match s.port.requests.find? (fun r => decide (r.stage = .running)) with
  | none => s
  | some r =>
    { s with port := { s.port with
        requests := advanceRequest .running .replied s.port.requests
        replies := s.port.replies ++ [⟨r.kind, r.tag, reason, content, false⟩] } }

/-! ## Lookups in the active bank -/

def State.schemeDef (s : State) (i : Nat) : Option SchemeDef := rec? s.banks.active.scheme i
def State.actionDef (s : State) (i : Nat) : Option ActionDef := rec? s.banks.active.action i
def State.siteDef (s : State) (i : Nat) : Option SiteDef := rec? s.banks.active.site i
def State.channelDef (s : State) (i : Nat) : Option ChannelDef := rec? s.banks.active.channel i
def State.contingencyDef (s : State) (i : Nat) : Option ContingencyDef :=
  rec? s.banks.active.contingency i
def State.analogDef (s : State) (i : Nat) : Option AnalogDef := rec? s.banks.active.analog i
def State.statusDef (s : State) (i : Nat) : Option StatusDef := rec? s.banks.active.status i

def State.scheme? (s : State) (i : Nat) : Option Scheme := rec? s.evaluator.schemes i
def State.action? (s : State) (i : Nat) : Option Action := rec? s.pool.actions i
def State.exec? (s : State) (i : Nat) : Option Exec := rec? s.dispatcher.execs i
def State.contingency? (s : State) (i : Nat) : Option Contingency := rec? s.detector i
def State.channel (s : State) (i : Nat) : Channel := item s.units.channels i Channel.reset
def State.site (s : State) (i : Nat) : Site := item s.units.sites i Site.reset
def State.link (s : State) (c site : Nat) : Link :=
  item (item s.units.links c (Vector.replicate 16 Link.clear)) site Link.clear

/-! ## Updates of one record -/

def State.setScheme (s : State) (i : Nat) (x : Scheme) : State :=
  { s with evaluator := { s.evaluator with schemes := put s.evaluator.schemes i (some x) } }

def State.setAction (s : State) (i : Nat) (x : Action) : State :=
  { s with pool := { s.pool with actions := put s.pool.actions i (some x) } }

def State.setExec (s : State) (i : Nat) (x : Option Exec) : State :=
  { s with dispatcher := { s.dispatcher with execs := put s.dispatcher.execs i x } }

def State.setContingency (s : State) (i : Nat) (x : Contingency) : State :=
  { s with detector := put s.detector i (some x) }

def State.setChannel (s : State) (i : Nat) (x : Channel) : State :=
  { s with units := { s.units with channels := put s.units.channels i x } }

def State.setSite (s : State) (i : Nat) (x : Site) : State :=
  { s with units := { s.units with sites := put s.units.sites i x } }

def State.setLink (s : State) (c site : Nat) (x : Link) : State :=
  let row := put (item s.units.links c (Vector.replicate 16 Link.clear)) site x
  { s with units := { s.units with links := put s.units.links c row } }

def State.setEngine (s : State) (e : Engine) : State := { s with engine := e }

def State.setImage (s : State) (i : Nat) (x : Image) : State :=
  { s with engine := { s.engine with images := put s.engine.images i x } }

def State.image (s : State) (i : Nat) : Image := item s.engine.images i Image.reset

/-- Orders of the table changed one by one; the table keeps its length and order. -/
def State.mapOrders (s : State) (f : Order → Order) : State :=
  { s with dispatcher := { s.dispatcher with orders := s.dispatcher.orders.map f } }

/-- The order with a serial. -/
def State.order? (s : State) (serial : Nat) : Option Order :=
  s.dispatcher.orders.find? (fun o => o.serial == serial)

end Sys2Proof.Machine
end

