-- ==== Sys2Proof/Machine/Flags.lean ====
section
/-! DEFINITION. Check codes of chapters 8 and 11: the header check code with its correction, the
payload CRC, the bank check value. -/

namespace Sys2Proof.Machine

/-! ## Header check code (Table 11-2) -/

/-- Positions of the 24 data bits, from bit 7 of byte 0 to bit 0 of byte 2. -/
def dataPositions : List Nat :=
  [3, 5, 6, 7, 9, 10, 11, 12, 13, 14, 15, 17, 18, 19, 20, 21, 22, 23, 24, 25, 26, 27, 28, 29]

/-- Position and bit number within header byte 3 of each check bit. -/
def checkPositions : List (Nat × Nat) := [(1, 2), (2, 3), (4, 4), (8, 5), (16, 6)]

/-- Header bytes 0 to 2 as one number, most significant byte first. -/
def headerData (b0 b1 b2 : Byte) : BitVec 24 := b0 ++ b1 ++ b2

/-- The positions that hold a one among the data bits. -/
def dataOnes (d : BitVec 24) : List Nat :=
  (dataPositions.zipIdx).filterMap (fun p => if d.getMsbD p.2 then some p.1 else none)

/-- The positions that hold a one among the check bits of byte 3. -/
def checkOnes (b3 : Byte) : List Nat :=
  checkPositions.filterMap (fun p => if b3.getLsbD p.2 then some p.1 else none)

/-- The number whose bit k is the parity of the positions whose index has bit k set (R191). -/
def xorAll (ps : List Nat) : Nat := ps.foldl Nat.xor 0

/-- Header byte 3 for header bytes 0 to 2: c1 to c16, then P (Table 11-2). -/
def headerCheck (b0 b1 b2 : Byte) : Byte :=
  let data := dataOnes (headerData b0 b1 b2)
  let checks := xorAll data
  let ones := data.length + (checkPositions.filter (fun p => checks.testBit (p.2 - 2))).length
  BitVec.ofNat 8 ((if ones % 2 = 1 then 128 else 0) + checks * 4)

/-- The data bit at a position is inverted; a check-bit position leaves the data (R191). -/
def flipPosition (d : BitVec 24) (pos : Nat) : BitVec 24 :=
  match dataPositions.findIdx? (fun p => p == pos) with
  | some i => d ^^^ (1 <<< (23 - i))
  | none => d

/-- The fields of three header bytes (Table 11-1). -/
def headerFields (d : BitVec 24) (corrected : Bool) : Header where
  kind := (d.extractLsb' 18 6).toNat
  reply := d.getLsbD 17
  test := d.getLsbD 16
  address := (d.extractLsb' 12 4).toNat
  sequence := (d.extractLsb' 8 4).toNat
  length := (d.extractLsb' 0 8).toNat
  corrected := corrected

/-- The header read from four bytes, or none when it is uncorrectable (R191). -/
def readHeader (b0 b1 b2 b3 : Byte) : Option Header :=
  let d := headerData b0 b1 b2
  let ones := dataOnes d ++ checkOnes b3
  let syndrome := xorAll ones
  let matchesP := b3.getLsbD 7 == decide (ones.length % 2 = 1)
  if b3.getLsbD 1 || b3.getLsbD 0 then none
  else if 30 ≤ syndrome then none
  else if syndrome = 0 then some (headerFields d (!matchesP))
  else if matchesP then none
  else some (headerFields (flipPosition d syndrome) true)

/-! ## Payload CRC (R192) -/

/-- `n` bits of the division by x^16 + x^12 + x^5 + 1, most significant first. -/
def crc16Bits : Nat → Word → Word
  | 0, c => c
  | n + 1, c => crc16Bits n (if c.getLsbD 15 then (c <<< 1) ^^^ 0x1021 else c <<< 1)

def crc16Byte (c : Word) (b : Byte) : Word := crc16Bits 8 (c ^^^ (b ++ (0 : Byte)))

/-- The CRC of a payload: initial value FFFFh, no final inversion. -/
def crc16 (bytes : List Byte) : Word := bytes.foldl crc16Byte 0xFFFF

/-! ## Bank check value (R159) -/

def crc32Bits : Nat → BitVec 32 → BitVec 32
  | 0, c => c
  | n + 1, c => crc32Bits n (if c.getLsbD 31 then (c <<< 1) ^^^ 0x04C11DB7 else c <<< 1)

def crc32Byte (c : BitVec 32) (b : Byte) : BitVec 32 :=
  crc32Bits 8 (c ^^^ (b ++ (0 : BitVec 24)))

/-- The 32-bit check over bytes: initial value FFFFFFFFh, no final inversion. -/
def crc32 (bytes : List Byte) : BitVec 32 := bytes.foldl crc32Byte 0xFFFFFFFF

end Sys2Proof.Machine
end

