-- ==== Sys2Proof/Machine/Operands.lean ====
section
/-! DEFINITION. What the words and bytes of chapter 11 mean: configuration records in STAGE_WRITE
form, channel frame payloads, the frames the part sends, and reply trains. -/

namespace Sys2Proof.Machine

/-! ## Words and bytes (4.6) -/

def hiByte (w : Word) : Byte := w.extractLsb' 8 8
def loByte (w : Word) : Byte := w.extractLsb' 0 8
def hi (w : Word) : Nat := (hiByte w).toNat
def lo (w : Word) : Nat := (loByte w).toNat

/-- The bytes of words, each most significant byte first (4.6). -/
def wordBytes (ws : List Word) : List Byte := ws.flatMap (fun w => [hiByte w, loByte w])

/-- The words of a payload's bytes, each most significant byte first (4.6). -/
def bytesToWords : List Byte → List Word
  | b0 :: b1 :: rest => (b0 ++ b1) :: bytesToWords rest
  | _ => []

/-- Word `i` of a payload; a word that is not there reads 0 and is never judged. -/
def wordAt (ws : List Word) (i : Nat) : Word := ws.getD i 0

/-- The number in word `i`, if it lies in `lo` to `hi`. -/
def ranged (ws : List Word) (i lo hi : Nat) : Option Nat :=
  let n := (wordAt ws i).toNat
  if lo ≤ n ∧ n ≤ hi then some n else none

/-- Apply a partial reading to every number below `n`; all or none. -/
def readList {α : Type} (n : Nat) (f : Nat → Option α) : Option (List α) :=
  (List.range n).mapM f

/-! ## Codes (11.2, R194) -/

/-- Status codes OPEN 01h, CLOSED 02h, INVALID 03h (11.2). -/
def statusCode : StatusVal → Nat
  | .opened => 1
  | .closed => 2
  | .invalid => 3

def statusOf (n : Nat) : Option StatusVal :=
  if n = 1 then some .opened
  else if n = 2 then some .closed
  else if n = 3 then some .invalid
  else none

def policyCode : FailPolicy → Nat
  | .hold => 1
  | .zero => 2
  | .worst => 3

def policyOf (n : Nat) : Option FailPolicy :=
  if n = 1 then some .hold
  else if n = 2 then some .zero
  else if n = 3 then some .worst
  else none

def modeCode : Mode → Nat
  | .service => 1
  | .test => 2

def confirmCode : ConfirmMode → Nat
  | .any => 1
  | .both => 2

def kindCode : ActionKind → Nat
  | .genDrop => 1
  | .loadShed => 2
  | .switch => 3

def kindOf (n : Nat) : Option ActionKind :=
  if n = 1 then some .genDrop
  else if n = 2 then some .loadShed
  else if n = 3 then some .switch
  else none

def bankStateCode : BankState → Nat
  | .empty => 1
  | .opened => 2
  | .sealed => 3
  | .rejected => 4

/-- A site-and-slot source, LOCAL coded FFFFh (R194). -/
def sourceWord : Source → Word
  | .slot site slot => wordPair site slot
  | .loc => 0xFFFF

def sourceOf (w : Word) : Option Source :=
  if w = 0xFFFF then some .loc
  else if hi w ≤ 15 ∧ lo w ≤ 15 then some (.slot (hi w) (lo w))
  else none

/-- Class codes of Table 8-1. -/
def classCode : RecordClass → Nat
  | .point => 1
  | .contingency => 2
  | .scheme => 3
  | .action => 4
  | .site => 5
  | .channel => 6
  | .parameters => 7

def classOf (n : Nat) : Option RecordClass :=
  if n = 1 then some .point
  else if n = 2 then some .contingency
  else if n = 3 then some .scheme
  else if n = 4 then some .action
  else if n = 5 then some .site
  else if n = 6 then some .channel
  else if n = 7 then some .parameters
  else none

/-- Largest index of a class (Table 8-1). -/
def classLast : RecordClass → Nat
  | .point => 191
  | .contingency => 31
  | .scheme => 15
  | .action => 95
  | .site => 15
  | .channel => 7
  | .parameters => 0

/-- Words of a DEFINED record of a class (R194). -/
def classWords (c : RecordClass) (index : Nat) : Nat :=
  match c with
  | .point => if index < 64 then 6 else 3
  | .contingency => 15
  | .scheme => 40
  | .action => 9
  | .site => 2
  | .channel => 7
  | .parameters => 4

/-! ## Configuration records (11.3) -/

/-- A record of a bank in typed form. -/
inductive ConfigRecord where
  | analog (d : AnalogDef)
  | status (d : StatusDef)
  | contingency (d : ContingencyDef)
  | scheme (d : SchemeDef)
  | action (d : ActionDef)
  | site (d : SiteDef)
  | channel (d : ChannelDef)
  | params (d : ParamsDef)
deriving DecidableEq, Repr

/-- Analog POINT: source, staleness limit, lo, hi, fail policy, restore count needed (Table 1-1). -/
def readAnalog (ws : List Word) : Option AnalogDef := do
  let source ← sourceOf (wordAt ws 0)
  let staleness ← ranged ws 1 10 10000
  let lo := (wordAt ws 2).toInt
  let hi := (wordAt ws 3).toInt
  let policy ← policyOf (wordAt ws 4).toNat
  let need ← ranged ws 5 1 15
  if lo < hi then some ⟨source, staleness, lo, hi, policy, need⟩ else none

def analogWords (d : AnalogDef) : List Word :=
  [sourceWord d.source, wordOf d.staleness, wordSigned d.lo, wordSigned d.hi,
    wordOf (policyCode d.policy), wordOf d.restoreNeeded]

/-- Status POINT: source, staleness limit, restore count needed. -/
def readStatus (ws : List Word) : Option StatusDef := do
  let source ← sourceOf (wordAt ws 0)
  let staleness ← ranged ws 1 10 10000
  let need ← ranged ws 2 1 15
  some ⟨source, staleness, need⟩

def statusWords (d : StatusDef) : List Word :=
  [sourceWord d.source, wordOf d.staleness, wordOf d.restoreNeeded]

/-- One term at word `i`: indication source, check point, outage state. A term without either source
is out of range (R157). -/
def readTerm (ws : List Word) (i : Nat) : Option TermDef := do
  let w := wordAt ws i
  let indication ← if w = 0xFFFF then some none
    else if hi w ≤ 15 then some (some (hi w, lo w)) else none
  let c := wordAt ws (i + 1)
  let check ← if c = 0xFFFF then some none
    else if c.toNat ≤ 127 then some (some c.toNat) else none
  let n ← ranged ws (i + 2) 1 2
  if indication.isNone && check.isNone then none
  else some ⟨indication, check, if n = 1 then .opened else .closed⟩

def termWords (t : TermDef) : List Word :=
  [match t.indication with
    | some (site, code) => wordPair site code
    | none => 0xFFFF,
   match t.check with
    | some p => wordOf p
    | none => 0xFFFF,
   wordOf (statusCode t.outage)]

/-- CONTINGENCY: term count, four terms, mode, window (R194). -/
def readContingency (ws : List Word) : Option ContingencyDef := do
  let n ← ranged ws 0 1 4
  let terms ← readList n (fun j => readTerm ws (1 + 3 * j))
  let mode ← ranged ws 13 1 2
  let window ← ranged ws 14 2 100
  some ⟨terms, if mode = 1 then .any else .both, window, (ws.drop (1 + 3 * n)).take (12 - 3 * n)⟩

def contingencyWords (d : ContingencyDef) : List Word :=
  [wordOf d.terms.length] ++ d.terms.flatMap termWords ++ d.ignored ++
    [wordOf (confirmCode d.mode), wordOf d.window]

def readInput (ws : List Word) (i : Nat) : Option InputDef := do
  let point ← ranged ws i 0 63
  let weight := (wordAt ws (i + 1)).toInt
  if -1024 ≤ weight ∧ weight ≤ 1023 then some ⟨point, weight⟩ else none

def readBreakpoint (ws : List Word) (i : Nat) : Option (Int × Nat) := do
  let y ← ranged ws (i + 1) 0 32767
  some ((wordAt ws i).toInt, y)

/-- SCHEME, laid out by Table 11-4. -/
def readScheme (ws : List Word) : Option SchemeDef := do
  let trigger ← ranged ws 0 0 31
  let n ← ranged ws 1 1 4
  let inputs ← readList n (fun j => readInput ws (2 + 2 * j))
  let b ← ranged ws 10 2 8
  let curve ← readList b (fun j => readBreakpoint ws (11 + 2 * j))
  let margin ← ranged ws 27 0 1000
  let armDwell ← ranged ws 30 0 5000
  let disarmDwell ← ranged ws 31 0 5000
  let deadline ← ranged ws 32 10 500
  let overshoot ← ranged ws 33 0 5000
  let m ← ranged ws 34 0 4
  let mandatory ← readList m (fun j => ranged ws (35 + j) 0 95)
  let flags ← ranged ws 39 0 3
  some {
    trigger := trigger
    inputs := inputs
    curve := curve
    margin := margin
    armOn := (wordAt ws 28).toInt
    armOff := (wordAt ws 29).toInt
    armDwell := armDwell
    disarmDwell := disarmDwell
    deadline := deadline
    overshoot := overshoot
    mandatory := mandatory
    initialEnable := flags % 2 = 1
    initialMode := if 2 ≤ flags then .test else .service
    ignoredInputs := (ws.drop (2 + 2 * n)).take (8 - 2 * n)
    ignoredCurve := (ws.drop (11 + 2 * b)).take (16 - 2 * b)
    ignoredMandatory := (ws.drop (35 + m)).take (4 - m) }

def schemeWords (d : SchemeDef) : List Word :=
  [wordOf d.trigger, wordOf d.inputs.length] ++
    d.inputs.flatMap (fun i => [wordOf i.point, wordSigned i.weight]) ++ d.ignoredInputs ++
    [wordOf d.curve.length] ++
    d.curve.flatMap (fun p => [wordSigned p.1, wordOf p.2]) ++ d.ignoredCurve ++
    [wordOf d.margin, wordSigned d.armOn, wordSigned d.armOff, wordOf d.armDwell,
      wordOf d.disarmDwell, wordOf d.deadline, wordOf d.overshoot, wordOf d.mandatory.length] ++
    d.mandatory.map wordOf ++ d.ignoredMandatory ++
    [wordOf ((if d.initialEnable then 1 else 0) + (if d.initialMode = .test then 2 else 0))]

/-- ACTION, laid out by Table 11-5. An empty eligible set is out of range (R194). -/
def readAction (ws : List Word) : Option ActionDef := do
  let kind ← kindOf (wordAt ws 0).toNat
  let site ← ranged ws 1 0 15
  let output ← ranged ws 2 0 255
  let sourceType ← ranged ws 3 0 1
  let source ← if sourceType = 0 then (ranged ws 4 0 32767).map MwSource.fixed
    else (ranged ws 4 0 63).map MwSource.point
  let minCredit ← ranged ws 5 0 32767
  let threshold ← ranged ws 6 0 32767
  let rank ← ranged ws 7 0 255
  let eligible := wordAt ws 8
  if eligible = 0 then none
  else some ⟨kind, site, output, source, minCredit, threshold, rank, eligible⟩

def actionWords (d : ActionDef) : List Word :=
  [wordOf (kindCode d.kind), wordOf d.site, wordOf d.output] ++
    (match d.source with
      | .fixed v => [0, wordOf v]
      | .point p => [1, wordOf p]) ++
    [wordOf d.minCredit, wordOf d.threshold, wordOf d.rank, d.eligible]

/-- SITE: primary, alternate or FFFFh (Table 7-3). -/
def readSite (ws : List Word) : Option SiteDef := do
  let primary ← ranged ws 0 0 7
  let alternate ← if wordAt ws 1 = 0xFFFF then some none else (ranged ws 1 0 7).map some
  some ⟨primary, alternate⟩

def siteWords (d : SiteDef) : List Word :=
  [wordOf d.primary, (d.alternate.map wordOf).getD 0xFFFF]

/-- CHANNEL in the order of Table 7-1. NO is coded 0 (DEDUCED, log 11). -/
def readChannel (ws : List Word) : Option ChannelDef := do
  let enabled ← ranged ws 0 0 1
  let lossTime ← ranged ws 1 20 1000
  let acquire ← ranged ws 2 2 16
  let degrade ← ranged ws 3 1 16
  let reply ← ranged ws 4 2 100
  let missed ← ranged ws 5 1 8
  let confirm ← ranged ws 6 2 50
  some ⟨enabled = 1, lossTime, acquire, degrade, reply, missed, confirm⟩

def channelWords (d : ChannelDef) : List Word :=
  [wordFlag d.enabled, wordOf d.lossTime, wordOf d.acquireNeeded, wordOf d.degradeThreshold,
    wordOf d.replyTimeout, wordOf d.missedLimit, wordOf d.confirmTimeout]

/-- PARAMETERS in the order of Table 7-2. -/
def readParams (ws : List Word) : Option ParamsDef := do
  let relaxed ← ranged ws 0 50 1000
  let brisk ← ranged ws 1 5 50
  let settle ← ranged ws 2 500 10000
  let revert ← ranged ws 3 0 60000
  some ⟨relaxed, brisk, settle, revert⟩

def paramsWords (d : ParamsDef) : List Word :=
  [wordOf d.relaxedPeriod, wordOf d.briskPeriod, wordOf d.settleTime, wordOf d.revertDelay]

/-- The fields of a DEFINED record; none when a field is outside its range (R157). -/
def readRecord (c : RecordClass) (index : Nat) (ws : List Word) : Option ConfigRecord :=
  match c with
  | .point => if index < 64 then (readAnalog ws).map .analog else (readStatus ws).map .status
  | .contingency => (readContingency ws).map .contingency
  | .scheme => (readScheme ws).map .scheme
  | .action => (readAction ws).map .action
  | .site => (readSite ws).map .site
  | .channel => (readChannel ws).map .channel
  | .parameters => (readParams ws).map .params

/-- The field content of a record in STAGE_WRITE form (R160). -/
def recordWords : ConfigRecord → List Word
  | .analog d => analogWords d
  | .status d => statusWords d
  | .contingency d => contingencyWords d
  | .scheme d => schemeWords d
  | .action d => actionWords d
  | .site d => siteWords d
  | .channel d => channelWords d
  | .params d => paramsWords d

/-- The record of a bank at a class and index, or none when it is UNDEFINED. -/
def Bank.record? (b : Bank) (c : RecordClass) (index : Nat) : Option ConfigRecord :=
  match c with
  | .point => if index < 64 then (rec? b.analog index).map .analog
      else (rec? b.status (index - 64)).map .status
  | .contingency => (rec? b.contingency index).map .contingency
  | .scheme => (rec? b.scheme index).map .scheme
  | .action => (rec? b.action index).map .action
  | .site => (rec? b.site index).map .site
  | .channel => (rec? b.channel index).map .channel
  | .parameters => b.params.map .params

/-- The bank with the record of its class at an index replaced. -/
def Bank.setRecord (b : Bank) (index : Nat) : ConfigRecord → Bank
  | .analog d => { b with analog := put b.analog index (some d) }
  | .status d => { b with status := put b.status (index - 64) (some d) }
  | .contingency d => { b with contingency := put b.contingency index (some d) }
  | .scheme d => { b with scheme := put b.scheme index (some d) }
  | .action d => { b with action := put b.action index (some d) }
  | .site d => { b with site := put b.site index (some d) }
  | .channel d => { b with channel := put b.channel index (some d) }
  | .params d => { b with params := some d }

/-- The bank with a record made UNDEFINED. -/
def Bank.undefine (b : Bank) (c : RecordClass) (index : Nat) : Bank :=
  match c with
  | .point => if index < 64 then { b with analog := put b.analog index none }
      else { b with status := put b.status (index - 64) none }
  | .contingency => { b with contingency := put b.contingency index none }
  | .scheme => { b with scheme := put b.scheme index none }
  | .action => { b with action := put b.action index none }
  | .site => { b with site := put b.site index none }
  | .channel => { b with channel := put b.channel index none }
  | .parameters => { b with params := none }

/-- A record in the form of section 11.3: class and index, mark, fields. -/
def recordForm (b : Bank) (c : RecordClass) (index : Nat) : List Word :=
  wordPair (classCode c) index ::
    match b.record? c index with
    | none => [0x0000]
    | some r => 0x0100 :: recordWords r

/-- All classes in the order of Table 8-1. -/
def allClasses : List RecordClass :=
  [.point, .contingency, .scheme, .action, .site, .channel, .parameters]

/-- The bytes the check value covers: each DEFINED record as class byte, index byte and its words, in
class order and ascending index (R159). -/
def Bank.checkBytes (b : Bank) : List Byte :=
  allClasses.flatMap (fun c => (List.range (classLast c + 1)).flatMap (fun i =>
    match b.record? c i with
    | none => []
    | some r => BitVec.ofNat 8 (classCode c) :: BitVec.ofNat 8 i :: wordBytes (recordWords r)))

/-- The check value of a bank (R159). -/
def Bank.checkValue (b : Bank) : BitVec 32 := crc32 b.checkBytes

/-! ## Channel frames (11.2) -/

/-- Kinds that a site sends and a block takes (Table 11-3). -/
inductive SiteFrame where
  | statusReply (seq : Byte) (slots : List Byte)
  | telemetry (seq : Byte) (pairs : List (Nat × Int))
  | indication (codes : List Nat)
  | tripAck (serial : Nat) (output : Nat) (result : Nat)
  | armAck (version : Byte)
deriving DecidableEq, Repr

/-- Codes packed two to a word, the first in the high byte (11.2). -/
def unpackCodes (n : Nat) (ws : List Word) : List Nat :=
  ((wordBytes ws).take n).map BitVec.toNat

/-- The content of a frame of kind 11h to 15h, or none when it is malformed (R193): its count lies
outside the range of Table 11-3, or its length is not the one its form gives. -/
def readSiteFrame (kind : Nat) (ws : List Word) : Option SiteFrame :=
  let w0 := wordAt ws 0
  if kind = 0x11 then
    if ws.length = 9 then some (.statusReply (hiByte w0) (wordBytes (ws.drop 1))) else none
  else if kind = 0x12 then
    let n := lo w0
    if 1 ≤ n ∧ n ≤ 12 ∧ ws.length = 1 + 2 * n then
      some (.telemetry (hiByte w0) ((List.range n).map (fun j =>
        ((wordAt ws (1 + 2 * j)).toNat, (wordAt ws (2 + 2 * j)).toInt))))
    else none
  else if kind = 0x13 then
    let n := lo w0
    if 1 ≤ n ∧ n ≤ 4 ∧ ws.length = 1 + (n + 1) / 2 then
      some (.indication (unpackCodes n (ws.drop 1)))
    else none
  else if kind = 0x14 then
    if ws.length = 2 then
      some (.tripAck w0.toNat (hi (wordAt ws 1)) (lo (wordAt ws 1)))
    else none
  else if kind = 0x15 then
    if ws.length = 1 then some (.armAck (hiByte w0)) else none
  else none

/-- The owners of a frame's content (R136). -/
def SiteFrame.owners : SiteFrame → List Owner
  | .statusReply _ _ => [.pointStore, .pollTracking]
  | .telemetry _ _ => [.pointStore, .pollTracking]
  | .indication _ => [.detector]
  | .tripAck _ _ _ => [.dispatcher]
  | .armAck _ => [.engine]

/-- Codes two to a word, the last low byte 00h when their number is odd (11.2). -/
def packCodes : List Nat → List Word
  | [] => []
  | [a] => [wordPair a 0]
  | a :: b :: rest => wordPair a b :: packCodes rest

/-- Payload of a frame the part sends on a channel (Table 11-3). -/
def TxFrame.payload : TxFrame → List Word
  | .poll _ => []
  | .trip _ serial output scheme attempt _ =>
    [wordOf serial, wordPair output (scheme * 16 + attempt)]
  | .armSet _ version codes => wordPair version.toNat codes.length :: packCodes codes
  | .probe words => words

/-- Kind code of a frame the part sends on a channel (Table 11-3). -/
def TxFrame.kindCode : TxFrame → Nat
  | .poll _ => 1
  | .trip _ _ _ _ _ _ => 2
  | .armSet _ _ _ => 3
  | .probe _ => 4

/-- Header address of a frame: its destination site (R139). A PROBE has none: a free value (log 28). -/
def TxFrame.address : TxFrame → Nat
  | .poll site => site
  | .trip site _ _ _ _ _ => site
  | .armSet site _ _ => site
  | .probe _ => Config.probeAddress.toNat

/-- TRIP frames are of the TRIP class, the others ROUTINE (R138). -/
def TxFrame.isTrip : TxFrame → Bool
  | .poll _ => false
  | .trip _ _ _ _ _ _ => true
  | .armSet _ _ _ => false
  | .probe _ => false

/-- TEST bit of a frame: a TRIP of a TEST execution (R193). -/
def TxFrame.testBit : TxFrame → Bool
  | .poll _ => false
  | .trip _ _ _ _ _ test => test
  | .armSet _ _ _ => false
  | .probe _ => false

/-- The bytes of a frame (Table 11-1): delimiter, header with its check code, payload, and a CRC when
the payload is not empty. -/
def frameBytes (kind : Nat) (reply test : Bool) (address sequence : Nat) (payload : List Word) :
    List Byte :=
  let b0 := BitVec.ofNat 8 (kind * 4 + (if reply then 2 else 0) + (if test then 1 else 0))
  let b1 := BitVec.ofNat 8 (address * 16 + sequence)
  let b2 := BitVec.ofNat 8 payload.length
  let body := wordBytes payload
  [0xC5, 0x3A, b0, b1, b2, headerCheck b0 b1 b2] ++ body ++
    (if payload.isEmpty then [] else wordBytes [crc16 body])

/-- The bytes of a channel frame in transmission (R139, R193). -/
def Sending.bytes (t : Sending) : List Byte :=
  frameBytes t.frame.kindCode false t.frame.testBit t.frame.address t.sequence t.frame.payload

/-! ## Replies (R176, R177) -/

/-- Reason codes (R176). -/
def reasonCode : Reason → Nat
  | .none => 0
  | .badState => 1
  | .outOfRange => 2
  | .noItem => 3
  | .busy => 4
  | .badKind => 5
  | .badFrame => 6
  | .bankLocked => 7
  | .checkFailed => 8

/-- Status code: DONE 00h with reason NONE, REFUSED 01h otherwise (R176). -/
def statusOfReason : Reason → Nat
  | .none => 0
  | _ => 1

/-- Head and content of a reply (R176). -/
def Reply.words (r : Reply) : List Word :=
  [wordPair (statusOfReason r.reason) (reasonCode r.reason), wordOf r.content.length] ++ r.content

/-- Words cut into pieces of 120, at most `fuel` pieces (R177). -/
def cutWords : Nat → List Word → List (List Word)
  | 0, _ => []
  | fuel + 1, ws =>
    if ws.length ≤ Config.payloadLimit then [ws]
    else ws.take Config.payloadLimit :: cutWords fuel (ws.drop Config.payloadLimit)

/-- The frames of a reply: one, or a train of up to 15 whose sequence fields number them (R177). -/
def Reply.train (r : Reply) : List (List Byte) :=
  (cutWords 15 r.words).zipIdx.map (fun p => frameBytes r.kind true false r.tag p.2 p.1)

end Sys2Proof.Machine
end

