-- ==== Sys2Proof/Machine/PointRules.lean ====
section
/-! DEFINITION. The life of one point (chapter 1): samples, expiries, substitution, release, used
value. The rules are stated once for analog and status points. -/

namespace Sys2Proof.Machine

variable {V : Type}

/-- A point that comes into being (R1). -/
def Point.fresh (now : Time) (v : V) : Point V :=
  ⟨v, v, false, .failed, now, 0, none, none, true⟩

/-- Qualities that count as good for freshness (Table 1-2). -/
def Quality.isFresh : Quality → Bool
  | .good => true
  | .limited => true
  | .stale => false
  | .failed => false
  | .restoring => false
  | .substituted => false

/-- Qualities usable by the Action Pool (Table 1-2). -/
def Quality.isUsable : Quality → Bool
  | .good => true
  | .limited => true
  | .stale => false
  | .failed => false
  | .restoring => false
  | .substituted => true

/-- Qualities whose staleness timer runs towards STALE (R7). -/
def Quality.runsStaleness : Quality → Bool
  | .good => true
  | .limited => true
  | .stale => false
  | .failed => false
  | .restoring => true
  | .substituted => false

/-- The staleness expiry of R7 is due: the age exceeds the limit. -/
def Point.staleDue (now : Time) (limit : Nat) (p : Point V) : Bool :=
  p.quality.runsStaleness && decide (counts limit < Time.age now p.lastSample)

/-- The failure-limit expiry of R7 is due: a STALE point's age exceeds four times the limit. -/
def Point.failDue (now : Time) (limit : Nat) (p : Point V) : Bool :=
  decide (p.quality = .stale) && decide (4 * counts limit < Time.age now p.lastSample)

/-- The point becomes STALE (R7). -/
def Point.goStale (p : Point V) : Point V :=
  { p with quality := .stale, progress := 0, origin := none }

/-- The point becomes FAILED (R7, R10, R11). -/
def Point.goFailed (p : Point V) : Point V :=
  { p with quality := .failed, progress := 0, origin := none }

/-- The point with every expiry due at `now` taken (R5, R20). -/
def Point.expire (now : Time) (limit : Nat) (p : Point V) : Point V :=
  let p1 := if p.staleDue now limit then p.goStale else p
  if p1.failDue now limit then p1.goFailed else p1

/-- Recording of a sample (R5). -/
def Point.record (now : Time) (v : V) (clamped : Bool) (p : Point V) : Point V :=
  { p with value := v, clamped := clamped, lastSample := now, neverUpdated := false }

/-- The recorded sample leaves the point GOOD, or LIMITED when it was clamped; the held value becomes
the recorded value (R6, R8, R9). -/
def Point.settle (p : Point V) : Point V :=
  { p with
    quality := if p.clamped then .limited else .good
    held := p.value, progress := 0, origin := none }

/-- Restoration begins with progress 1 (R8). -/
def Point.startRestore (origin : Origin) (p : Point V) : Point V :=
  { p with quality := .restoring, progress := 1, origin := some origin }

/-- A sample accepted for a point on which no expiry is due (R6, R8, R9, R10, R12). `invalid` marks a
status sample of INVALID. -/
def Point.sample (now : Time) (need : Nat) (v : V) (clamped invalid : Bool) (p : Point V) :
    Point V :=
  let r := p.record now v clamped
  match p.quality with
  | .substituted => r
  | .good => if invalid then r.goFailed else r.settle
  | .limited => if invalid then r.goFailed else r.settle
  | .stale =>
    if invalid then r.goFailed else if need ≤ 1 then r.settle else r.startRestore .stale
  | .failed =>
    if invalid then r.goFailed else if need ≤ 1 then r.settle else r.startRestore .failed
  | .restoring =>
    if invalid then r.goFailed
    else if need ≤ p.progress + 1 then r.settle
    else { r with progress := p.progress + 1 }

/-- Substitution (R12). -/
def Point.substitute (v : V) (p : Point V) : Point V :=
  { p with quality := .substituted, progress := 0, origin := none, subst := some v }

/-- Release (R13): the first row that matches. `lost` says that the source is an UNREACHABLE site,
`invalid` that a status point's recorded value is INVALID. -/
def Point.release (now : Time) (limit : Nat) (lost invalid : Bool) (p : Point V) : Point V :=
  let p0 := { p with subst := none, progress := 0, origin := none }
  let age := Time.age now p.lastSample
  if p.neverUpdated || lost || invalid || decide (4 * counts limit < age) then
    { p0 with quality := .failed }
  else if counts limit < age then { p0 with quality := .stale }
  else p0.settle

/-- The used value of an analog point (R14, Table 1-3). -/
def usedAnalog (d : AnalogDef) (p : Point Int) : UsedValue :=
  let policy : UsedValue := match d.policy with
    | .hold => .num p.held
    | .zero => .num 0
    | .worst => .worst d.lo d.hi
  match p.quality with
  | .good => .num p.value
  | .limited => .num p.value
  | .stale => .num p.held
  | .failed => policy
  | .restoring => if p.origin = some .failed then policy else .num p.held
  | .substituted => .num (p.subst.getD p.held)

/-- The used value of a status point (Table 1-3). -/
def usedStatus (p : Point StatusVal) : StatusVal :=
  match p.quality with
  | .good => p.value
  | .limited => p.value
  | .stale => p.held
  | .failed => .invalid
  | .restoring => if p.origin = some .failed then .invalid else p.held
  | .substituted => p.subst.getD p.held

/-- One point at a commit: kept with its expiries taken, anew, or dropped (R20). `old` is its source under the
bank that leaves, `new` its source and staleness limit under the bank that comes. -/
def carryPoint (now : Time) (zero : V) (old : Option Source) (new : Option (Source × Nat))
    (p : Option (Point V)) : Option (Point V) :=
  match new with
  | none => none
  | some (source, limit) =>
    match old, p with
    | some o, some x => if o = source then some (x.expire now limit) else some (Point.fresh now zero)
    | _, _ => some (Point.fresh now zero)

/-- A point without the last sample time of one that has no sample yet, which is the moment it would come into
being (R1). -/
def Point.unstamped (p : Point V) : Point V := if p.neverUpdated then { p with lastSample := 0 } else p

/-- A staged view has changed (R21). A point that would come into being has no event of its own, and its last
sample time, the moment of the commit (R1), is no change (log 44). -/
def viewMoved [DecidableEq V] (x y : Option (Point V)) : Bool :=
  !decide (x.map Point.unstamped = y.map Point.unstamped)

/-- The recorded value of an analog sample and its clamped flag (R5). -/
def clampSample (d : AnalogDef) (v : Int) : Int × Bool :=
  if v < d.lo then (d.lo, true)
  else if d.hi < v then (d.hi, true)
  else (v, false)

/-- The relations between the fields of a point that hold in every state the rules lead to. A
restore origin is there exactly while RESTORING, a substitute value exactly while SUBSTITUTED, and
restore progress only while RESTORING (Table 1-1, R8 to R13). A never-updated point is FAILED or
SUBSTITUTED (R1). -/
abbrev Point.WellFormed (p : Point V) : Prop :=
  (p.origin.isSome ↔ p.quality = .restoring) ∧
  (p.subst.isSome ↔ p.quality = .substituted) ∧
  (p.quality ≠ .restoring → p.progress = 0) ∧
  (p.neverUpdated = true → p.quality = .failed ∨ p.quality = .substituted)

end Sys2Proof.Machine
end

