-- ==== Sys2Proof/Machine/Arming.lean ====
section
/-! DEFINITION. The arming arithmetic (R41 to R47), the judgement of an arming quantity against the
arm levels (R55 to R57, R62), and the seamless carry rule (R166). All of it is exact. -/

namespace Sys2Proof.Machine

/-! ## The four stages -/

/-- What a point supplies to an input of a weight (R41): under WORST hi where the weight is 0 or
greater and lo where it is negative. -/
def inputValue (weight : Int) : UsedValue → Int
  | .num v => v
  | .worst lo hi => if weight < 0 then lo else hi

/-- The weighted sum S of values and weights (R43). -/
def weightedSum (terms : List (Int × Int)) : Int := (terms.map (fun t => t.1 * t.2)).sum

/-- A number limited to a signed 16-bit count. -/
def clamp16 (x : Int) : Int := max (-32768) (min 32767 x)

/-- The arming quantity (R44): S divided by 256, rounded toward negative infinity, then clamped. -/
def armingQuantity (sum : Int) : Int := clamp16 (sum / 256)

/-- `a / b` rounded toward positive infinity, for positive `b` (R46). -/
def ceilDiv (a b : Int) : Int := -((-a) / b)

/-- The curve value inside a segment (R46). -/
def interpolate (p r : Int × Nat) (q : Int) : Int :=
  p.2 + ceilDiv (((r.2 : Int) - p.2) * (q - p.1)) (r.1 - p.1)

/-- The segment of Q, numbered from `k`, and its curve value (R45). -/
def findSegment (q : Int) (k : Nat) : List (Int × Nat) → Option (Nat × Nat)
  | [] => none
  | p :: rest =>
    match rest with
    | [] => none
    | r :: _ =>
      if p.1 ≤ q ∧ q < r.1 then some (k, (interpolate p r q).toNat)
      else findSegment q (k + 1) rest

/-- Curve position and curve value of Q (R45). A curve has at least two breakpoints (Table 3-1). -/
def curveAt (curve : List (Int × Nat)) (q : Int) : CurvePos × Nat :=
  match curve.head?, curve.getLast? with
  | some first, some last =>
    if q ≤ first.1 then (.below, first.2)
    else if last.1 ≤ q then (.above, last.2)
    else
      match findSegment q 0 curve with
      | some (k, y) => (.segment k, y)
      | none => (.below, first.2)
  | _, _ => (.below, 0)

/-- The requirement (R47). -/
def requirementOf (y margin : Nat) : Nat := min (y + margin) 32767

/-- One input as read: the value for its weight and the quality (R39, R41). -/
def takeInput (view : Nat → UsedValue × Quality) (i : InputDef) : InputTaken :=
  ⟨inputValue i.weight (view i.point).1, (view i.point).2⟩

/-- An evaluation: the four stages from what each input point supplies (R40 to R47). -/
def evaluate (d : SchemeDef) (view : Nat → UsedValue × Quality) (now : Time) : EvalRec :=
  let taken := d.inputs.map (takeInput view)
  let q := armingQuantity
    (weightedSum (d.inputs.map (fun i => (inputValue i.weight (view i.point).1, i.weight))))
  let c := curveAt d.curve q
  { q := q
    requirement := requirementOf c.2 d.margin
    degraded := taken.any (fun t => !t.quality.isFresh)
    inputs := taken
    position := c.1
    time := now }

/-! ## Judgement (R55 to R57, R62) -/

/-- What a judgement leaves: the arm state, the dwell, whether ARMING was entered (R58), and whether a
stopped dwell expired at a release (R62). -/
structure Judged where
  arm : ArmState
  dwell : Option Dwell
  entered : Bool
  expired : Bool
deriving DecidableEq, Repr

def fullDwell (kind : DwellKind) (now : Time) (ms : Nat) : Dwell :=
  ⟨kind, .running (Time.after now (counts ms))⟩

/-- A judgement from DISARMED (R55, R57). -/
def judgeDisarmed (d : SchemeDef) (now : Time) (q : Int) : Judged :=
  if q < d.armOn then ⟨.disarmed, none, false, false⟩
  else if d.armDwell = 0 then ⟨.armed, none, true, false⟩
  else ⟨.arming, some (fullDwell .arm now d.armDwell), true, false⟩

/-- A judgement from ARMED (R56, R57). -/
def judgeArmed (d : SchemeDef) (now : Time) (q : Int) : Judged :=
  if d.armOff ≤ q then ⟨.armed, none, false, false⟩
  else if d.disarmDwell = 0 then ⟨.disarmed, none, false, false⟩
  else ⟨.disarming, some (fullDwell .disarm now d.disarmDwell), false, false⟩

/-- A dwell that goes on: a running one is unchanged, a stopped one resumes with its remaining time,
and one with 0 remaining expires at once into `next` (R55, R56, R62). -/
def continueDwell (now : Time) (arm next : ArmState) (w : Dwell) : Judged :=
  match w.time with
  | .running _ => ⟨arm, some w, false, false⟩
  | .stopped 0 => ⟨next, none, false, true⟩
  | .stopped (n + 1) => ⟨arm, some ⟨w.kind, .running (Time.after now (n + 1))⟩, false, false⟩

/-- A scheme's arming quantity is judged against its levels (R55, R56, R62). -/
def judgeArm (d : SchemeDef) (now : Time) (arm : ArmState) (dwell : Option Dwell) (q : Int) : Judged :=
  match arm with
  | .disarmed => judgeDisarmed d now q
  | .arming =>
    if q < d.armOn then ⟨.disarmed, none, false, false⟩
    else
      match dwell with
      | some w => continueDwell now .arming .armed w
      | none => ⟨.arming, none, false, false⟩
  | .armed => judgeArmed d now q
  | .disarming =>
    if d.armOff ≤ q then ⟨.armed, none, false, false⟩
    else
      match dwell with
      | some w => continueDwell now .disarming .disarmed w
      | none => ⟨.disarming, none, false, false⟩
  | .executing => ⟨.executing, dwell, false, false⟩
  | .latched => ⟨.latched, dwell, false, false⟩

/-! ## Seamless carry (R166) -/

/-- ARMED and DISARMING count as armed for execution (R56, R63). -/
def ArmState.isArmed : ArmState → Bool
  | .disarmed => false
  | .arming => false
  | .armed => true
  | .disarming => true
  | .executing => false
  | .latched => false

/-- ARMING, ARMED and DISARMING: the states whose schemes have selections made (R48, R95). -/
def ArmState.isPlanned : ArmState → Bool
  | .disarmed => false
  | .arming => true
  | .armed => true
  | .disarming => true
  | .executing => false
  | .latched => false

def Reported.isPlanned : Reported → Bool
  | .off => false
  | .on a => a.isPlanned

/-- Enable after a commit (R50, R166). -/
def enableAfter (d : SchemeDef) (live : Option Scheme) : Bool :=
  match live with
  | none => d.initialEnable
  | some x => x.enable

/-- The arm state and dwell a scheme takes at a commit (R166), from its live state, its new definition
and its prepared Q. -/
def carryRule (d : SchemeDef) (now : Time) (live : Option Scheme) (q : Int) : Reported × Option Dwell :=
  if enableAfter d live then
    let arm := (live.map Scheme.arm).getD .disarmed
    if arm = .latched then (.on .latched, none)
    else
      let j := if arm.isArmed then judgeArmed d now q else judgeDisarmed d now q
      (.on j.arm, j.dwell)
  else (.off, none)

/-! ## Views of points (R14, R21, R40) -/

/-- What an input of a point that is not there would read; no seal lets a scheme name one (R158). -/
def noView : UsedValue × Quality := (.num 0, .failed)

/-- What an analog point supplies now, with its quality (R40). -/
def State.liveView (s : State) (a : Nat) : UsedValue × Quality :=
  match s.analogDef a, rec? s.points.analog a with
  | some d, some p => (usedAnalog d p, p.quality)
  | _, _ => noView

/-- An analog point as a commit at this moment would leave it (R20, R21). -/
def State.stagedAnalog (s : State) (a : Nat) : Option (Point Int) :=
  carryPoint s.now 0 ((s.analogDef a).map AnalogDef.source)
    ((rec? s.banks.staged.analog a).map (fun d => (d.source, d.staleness))) (rec? s.points.analog a)

/-- A status point as a commit at this moment would leave it (R20, R21). -/
def State.stagedStatus (s : State) (a : Nat) : Option (Point StatusVal) :=
  carryPoint s.now .invalid ((s.statusDef a).map StatusDef.source)
    ((rec? s.banks.staged.status a).map (fun d => (d.source, d.staleness))) (rec? s.points.status a)

/-- The staged views of all points (R21). -/
def State.stagedPoints (s : State) : StagedPoints where
  analog := Vector.ofFn (fun (a : Fin 64) => s.stagedAnalog a)
  status := Vector.ofFn (fun (a : Fin 128) => s.stagedStatus a)

/-- What an analog point supplies in the staged view (R21). -/
def State.stagedView (s : State) (a : Nat) : UsedValue × Quality :=
  match rec? s.banks.staged.analog a, s.stagedAnalog a with
  | some d, some p => (usedAnalog d p, p.quality)
  | _, _ => noView

/-! ## Frozen schemes (4.1) -/

/-- A scheme is frozen (4.1). -/
def Scheme.isFrozen (x : Scheme) : Bool := x.frozen || decide (x.arm = .executing)

/-- The freeze of a scheme has begun and not ended: the scheme is frozen or EXECUTING, or the freeze request of
its first evidence is on its way (R28, R61, R64, R92). -/
def State.freezeBegun (s : State) (sch : Nat) : Bool :=
  s.inflight.any (fun m => decide (m = .freezeReq sch)) || ((s.scheme? sch).map Scheme.isFrozen).getD false

end Sys2Proof.Machine
end

