-- ==== Sys2Proof/Machine/Requests.lean ====
section
/-! DEFINITION. How the port carries out a request that waits in its queue (R174 to R176). -/

namespace Sys2Proof.Machine

/-- Kind codes of the host requests (Table 11-8). -/
def requestKinds : List Nat :=
  [0x20, 0x21, 0x22, 0x23, 0x24, 0x25, 0x26, 0x27, 0x28, 0x29, 0x2A, 0x2B, 0x2C, 0x2D, 0x2E, 0x2F,
    0x30, 0x31, 0x32]

/-- The oldest request not yet carried out, while no other is being carried out (R175), if it has
kind `kind`. -/
def State.nextRequest (s : State) (kind : Nat) : Option Request :=
  if s.port.requests.any (fun r => decide (r.stage = .running)) then none
  else
    match s.port.requests.find? (fun r => decide (r.stage = .waiting)) with
    | none => none
    | some r => if r.kind = kind then some r else none

/-- The request is carried out, and its reply is formed (R175, R176). -/
def State.replyTo (s : State) (r : Request) (reason : Reason) (content : List Word) : State :=
  { s with port := { s.port with
      requests := advanceRequest .waiting .replied s.port.requests
      replies := s.port.replies ++ [⟨r.kind, r.tag, reason, content, false⟩] } }

/-- The request is held as being carried out (R175, R181, R182). -/
def State.hold (s : State) : State :=
  { s with port := { s.port with requests := advanceRequest .waiting .running s.port.requests } }

/-- What an owning rule answers: a reason, the reply content, and the state it leaves. -/
structure Answer where
  reason : Reason
  content : List Word
  state : State
deriving DecidableEq, Repr

def Answer.refuse (reason : Reason) (s : State) : Answer := ⟨reason, [], s⟩
def Answer.done (content : List Word) (s : State) : Answer := ⟨.none, content, s⟩

/-- Carry out the waiting request of a kind: its length first, then its owning rule (R175). `mine`
says that the request is one of this row's, where several rows share a kind (log 7). -/
def State.carryOut (s : State) (kind : Nat) (mine fits : List Word → Bool)
    (rule : List Word → State → Answer) : State :=
  match s.nextRequest kind with
  | none => s
  | some r =>
    if !mine r.words then s
    else if fits r.words then
      let a := rule r.words s
      a.state.replyTo r a.reason a.content
    else s.replyTo r .badFrame []

/-- A payload of `n` words. -/
def isLength (n : Nat) (ws : List Word) : Bool := ws.length == n

/-- The only row of its kind. -/
def anyRequest (_ : List Word) : Bool := true

/-- A row of a kind whose control or subject code is in the byte `code` of the first word: its own
code, or a request no row of the kind can take as its own (log 7). -/
def controlIs (code : Word → Nat) (own last : Nat) (ws : List Word) : Bool :=
  match ws with
  | [w] => code w == own || code w == 0 || decide (last < code w)
  | _ => true

end Sys2Proof.Machine
end

