-- ==== Sys2Proof/Machine/Channels.lean ====
section
/-! DEFINITION. Shared operations of the Channel Units (chapter 7): reports, reachability, routes,
transmit queues, clearing, outcomes and judgement, polling and probes. -/

namespace Sys2Proof.Machine

/-! ## Served sites and parameters -/

/-- A channel serves a site when it is the site's primary or alternate (7.1). -/
def State.serves (s : State) (c site : Nat) : Bool :=
  match s.siteDef site with
  | none => false
  | some d => d.primary == c || d.alternate == some c

/-- The sites a channel serves, in ascending order (R141). -/
def State.served (s : State) (c : Nat) : List Nat := (List.range 16).filter (s.serves c)

/-- The site reply timeout of a channel, in counts. A channel with no definition has none: a free value
(log 40). -/
def State.replyTimeout (s : State) (c : Nat) : Nat :=
  match s.channelDef c with
  | none => Config.strayTimeout s.now
  | some d => counts d.replyTimeout

def relaxedPeriod (p : Option ParamsDef) : Nat := counts ((p.map ParamsDef.relaxedPeriod).getD 0)
def briskPeriod (p : Option ParamsDef) : Nat := counts ((p.map ParamsDef.briskPeriod).getD 0)
def settleCounts (p : Option ParamsDef) : Nat := counts ((p.map ParamsDef.settleTime).getD 0)
def revertCounts (p : Option ParamsDef) : Nat := counts ((p.map ParamsDef.revertDelay).getD 0)

/-- Poll period of a cadence, in counts (R141). -/
def State.pollPeriod (s : State) : Cadence → Nat
  | .relaxed => relaxedPeriod s.banks.active.params
  | .brisk _ _ => briskPeriod s.banks.active.params

/-- ACQUIRING, UP, DEGRADED and DOWN: the states of normal reception and polling (R130, R141). -/
def ChannelState.inService : ChannelState → Bool
  | .disabled => false
  | .acquiring => true
  | .up => true
  | .degraded => true
  | .down => true
  | .loopback => false

/-- UP and DEGRADED carry traffic (R134). -/
def ChannelState.carries : ChannelState → Bool
  | .disabled => false
  | .acquiring => false
  | .up => true
  | .degraded => true
  | .down => false
  | .loopback => false

/-- The states in which the loss time runs (R135). -/
def ChannelState.runsLoss : ChannelState → Bool
  | .disabled => false
  | .acquiring => true
  | .up => true
  | .degraded => true
  | .down => false
  | .loopback => false

/-- Bad count of a quality window (Table 7-4). -/
def badCount (window : List Bool) : Nat := (window.filter (fun good => !good)).length

/-- Outcomes joined to a window, which keeps the last 16 (R132). -/
def pushOutcomes (window outcomes : List Bool) : List Bool :=
  let all := window ++ outcomes
  all.drop (all.length - Config.windowLimit)

/-! ## Codes of reports and replies (Table 11-7, R194) -/

def channelStateCode : ChannelState → Nat
  | .disabled => 1
  | .acquiring => 2
  | .up => 3
  | .degraded => 4
  | .down => 5
  | .loopback => 6

def channelCauseCode : ChannelCause → Nat
  | .acquired => 1
  | .degrade => 2
  | .recover => 3
  | .loss => 4
  | .heard => 5
  | .host => 6
  | .reset => 7
  | .commit => 8

/-- A route with its channel, FFh when there is none (Table 11-7). -/
def routeWord : Route → Word
  | .none => wordPair 0 255
  | .primary c => wordPair 1 c
  | .alternate c => wordPair 2 c

def routeCauseCode : RouteCause → Nat
  | .failover => 1
  | .revert => 2
  | .ret => 3
  | .lost => 4
  | .found => 5
  | .commit => 6

/-! ## Channel state (R129) -/

/-- CHANNEL_STATE report (R129). A change into DOWN gives the bad count of the window as it stands (log 66: DESIGN
CHOICE). -/
def State.reportChannel (s : State) (c : Nat) (old new : ChannelState) (cause : ChannelCause) : State :=
  s.report (mkReport .channelState false s.now c
    [wordPair (channelStateCode old) (channelStateCode new),
      wordPair (badCount (s.channel c).window) (channelCauseCode cause)])

/-- The change from `old` to the channel's present state is reported (R129). -/
def State.noteChannel (s : State) (c : Nat) (old : ChannelState) (cause : ChannelCause) : State :=
  let new := (s.channel c).state
  if old = new then s else s.reportChannel c old new cause

/-! ## Images of frames that are not sent (R97, R138) -/

/-- An image's send is not answered from this moment: the reply timeout of channel `c` starts (R97). -/
def Image.unanswered (now : Time) (timeout : Nat) (i : Image) : Image :=
  match i.conf with
  | .confirmed => i
  | .awaiting n _ => { i with conf := .awaiting n (some (Time.after now timeout)) }
  | .unconfirmed => i

def State.imageUnanswered (s : State) (site c : Nat) : State :=
  s.setImage site ((s.image site).unanswered s.now (s.replyTimeout c))

/-- The owner of a dropped, displaced or removed ROUTINE frame is told (R138). A TRIP frame's loss is
told by a loss notice, a PROBE's by the end of its probe. -/
def State.tellDropped (s : State) (c : Nat) (f : TxFrame) : State :=
  match f with
  | .poll site =>
    let l := s.link c site
    if l.poll = .queued then s.setLink c site { l with poll := .none } else s
  | .trip _ _ _ _ _ _ => s
  | .armSet site version _ =>
    if version = (s.image site).version then s.imageUnanswered site c else s
  | .probe _ => s

/-! ## Transmission (R138 to R140) -/

/-- The frame the transmitter takes: the oldest waiting TRIP, else the oldest ROUTINE (R139). -/
def nextFrame (q : List TxFrame) : Option (TxFrame × List TxFrame) :=
  match q.find? TxFrame.isTrip with
  | some f => some (f, q.eraseP TxFrame.isTrip)
  | none =>
    match q with
    | [] => none
    | f :: rest => some (f, rest)

/-- A POLL frame whose site's poll is no longer the one it was offered for (R139): the poll is not
QUEUED, or a later POLL of the site waits. -/
def State.isOrphan (s : State) (c : Nat) (f : TxFrame) (rest : List TxFrame) : Bool :=
  match f with
  | .poll site => !decide ((s.link c site).poll = .queued) || rest.contains (.poll site)
  | .trip _ _ _ _ _ _ => false
  | .armSet _ _ _ => false
  | .probe _ => false

/-- A probe whose frame's transmission begins (R151). -/
def Probe.begin (f : TxFrame) (p : Probe) : Probe :=
  match f with
  | .probe _ => if p.phase = .queued then { p with phase := .sending } else p
  | .poll _ => p
  | .trip _ _ _ _ _ _ => p
  | .armSet _ _ _ => p

/-- An IDLE transmitter takes the next waiting frame (R139). -/
def State.startTx (s : State) (c : Nat) : State :=
  let ch := s.channel c
  match ch.tx with
  | some _ => s
  | none =>
    match nextFrame ch.queue with
    | none => s
    | some (f, rest) =>
      let seq := (ch.outSeq + 1) % 16
      s.setChannel c { ch with
        queue := rest
        tx := some ⟨f, seq, s.isOrphan c f rest⟩
        outSeq := seq
        probe := ch.probe.map (Probe.begin f) }

/-- An admitted frame joins the queue; an admitted POLL makes its site's poll QUEUED (R138, R141). -/
def State.admitFrame (s : State) (c : Nat) (f : TxFrame) : State :=
  let ch := s.channel c
  let s1 := s.setChannel c { ch with queue := ch.queue ++ [f] }
  let s2 := match f with
    | .poll site => s1.setLink c site { s1.link c site with poll := .queued }
    | .trip _ _ _ _ _ _ => s1
    | .armSet _ _ _ => s1
    | .probe _ => s1
  s2.startTx c

/-- The queue without its most recently admitted ROUTINE frame, and that frame (R138). -/
def displaceRoutine (q : List TxFrame) : Option (TxFrame × List TxFrame) :=
  match q.reverse.find? (fun f => !f.isTrip) with
  | none => none
  | some f => some (f, (q.reverse.eraseP (fun f => !f.isTrip)).reverse)

def TxFrame.isProbe : TxFrame → Bool
  | .probe _ => true
  | .poll _ => false
  | .trip _ _ _ _ _ _ => false
  | .armSet _ _ _ => false

/-- A frame is offered to a channel's queue (R138): the answer is whether it was admitted. The limit of 8 waiting
frames holds in LOOPBACK too, where it is never met (log 48). -/
def State.offer (s : State) (c : Nat) (f : TxFrame) : Bool × State :=
  let ch := s.channel c
  match ch.state with
  | .disabled => (false, s)
  | .loopback =>
    if f.isProbe && decide (ch.queue.length < Config.txLimit) then (true, s.admitFrame c f) else (false, s)
  | _ =>
    if ch.queue.length < Config.txLimit then (true, s.admitFrame c f)
    else if f.isTrip then
      match displaceRoutine ch.queue with
      | none => (false, s)
      | some (g, rest) =>
        (true, ((s.setChannel c { ch with queue := rest }).tellDropped c g).admitFrame c f)
    else (false, s)

/-- Waiting TRIP frames of an order are withdrawn from every queue (R140). -/
def State.withdrawFrames (s : State) (serial : Nat) : State :=
  { s with units := { s.units with channels := s.units.channels.map (fun ch =>
      { ch with queue := ch.queue.filter (fun f =>
          match f with
          | .trip _ n _ _ _ _ => n != serial
          | .poll _ => true
          | .armSet _ _ _ => true
          | .probe _ => true) }) } }

/-! ## Reachability and routes (R143 to R147) -/

/-- The channels that serve a site: its primary, then its alternate (Table 7-3). -/
def SiteDef.channels (d : SiteDef) : List Nat := d.primary :: d.alternate.toList

/-- The channels of a site's record on which the site is reachable; none without a record (R144). -/
def State.reachableBy (s : State) (d : Option SiteDef) (site : Nat) : List Nat :=
  match d with
  | none => []
  | some x => x.channels.filter (fun c => (s.link c site).reachable)

/-- The channels on which a defined site is reachable (R144). -/
def State.reachableOn (s : State) (site : Nat) : List Nat := s.reachableBy (s.siteDef site) site

/-- The site is reachable on the channel, and the channel is UP or DEGRADED (R145). -/
def State.usable (s : State) (c site : Nat) : Bool :=
  (s.channel c).state.carries && (s.link c site).reachable

/-- The first row of R145: the channel is UP and the site reachable on it. -/
def State.sound (s : State) (c site : Nat) : Bool :=
  decide ((s.channel c).state = .up) && (s.link c site).reachable

/-- Preferred route of a site (R145). -/
def State.preferredRoute (s : State) (site : Nat) : Route :=
  match s.siteDef site with
  | none => .none
  | some d =>
    if s.sound d.primary site then .primary d.primary
    else
      match d.alternate with
      | some a =>
        if s.usable a site then .alternate a
        else if s.usable d.primary site then .primary d.primary
        else .none
      | none => if s.usable d.primary site then .primary d.primary else .none

/-- Cause of a route change that no commit and no revert makes (R147). -/
def routeCause (old new : Route) : RouteCause :=
  match old, new with
  | _, .none => .lost
  | .none, _ => .found
  | _, .alternate _ => .failover
  | _, .primary _ => .ret

/-- The route becomes `r`, reported when it changes; the stable since time goes (R146, R147). -/
def State.setRoute (s : State) (site : Nat) (r : Route) (cause : RouteCause) : State :=
  let x := s.site site
  let s1 := s.setSite site { x with route := r, stableSince := none }
  if x.route = r then s1
  else s1.report (mkReport .routeChange false s.now site
    [routeWord x.route, routeWord r, wordOf (routeCauseCode cause)])

/-- The alternate hold of R145 applies: the route is ALTERNATE and still usable, and the primary is
sound. -/
def State.heldOnAlternate (s : State) (site : Nat) : Bool :=
  match (s.site site).route, s.siteDef site with
  | .alternate a, some d => s.sound d.primary site && s.usable a site
  | _, _ => false

/-- A judgement of a site's route (R145, R146). At a commit changes carry cause COMMIT (R153). -/
def State.judgeRoute (s : State) (site : Nat) (commit : Bool) : State :=
  let x := s.site site
  if s.heldOnAlternate site then
    let since := x.stableSince.getD s.now
    if revertCounts s.banks.active.params ≤ Time.age s.now since ∧ x.liveOrders = 0 then
      s.setRoute site (s.preferredRoute site) (if commit then .commit else .revert)
    else s.setSite site { x with stableSince := some since }
  else
    let r := s.preferredRoute site
    s.setRoute site r (if commit then .commit else routeCause x.route r)

/-- A site's overall reachability follows its links: a change is delivered and reported (R144). `c` is
the channel whose event caused it. The report codes REACHABLE 1 (Table 11-7) and UNREACHABLE 0 (log 47). -/
def State.refreshReach (s : State) (c site : Nat) : State :=
  let x := s.site site
  let on := s.reachableOn site
  let reach := !on.isEmpty
  if x.reach = reach then s
  else
    let s1 := s.setSite site { x with reach := reach }
    let s2 := s1.sendAll [.pointsReach site reach, .actionReach site reach]
    s2.report (mkReport .siteReachability false s.now site
      [wordPair (if reach then 1 else 0) c, wordSet on])

/-- A change of a site's reachability on a channel goes to R144 and R145 (R143), in that order (log 63: DESIGN
CHOICE). -/
def State.reachChanged (s : State) (c site : Nat) : State :=
  (s.refreshReach c site).judgeRoute site false

/-- A change of a channel's state or of its links is followed for every site it serves (R129, R143), by ascending
site number, reachability before route for each (log 63: DESIGN CHOICE). -/
def State.followChannel (s : State) (c : Nat) : State :=
  (s.served c).foldl (fun s' site => s'.reachChanged c site) s

/-- A judgement of the routes of every site a channel serves (R129), by ascending site number (log 63: DESIGN
CHOICE). -/
def State.judgeRoutes (s : State) (c : Nat) : State :=
  (s.served c).foldl (fun s' site => s'.judgeRoute site false) s

/-! ## Clearing (R135, R143, R148, R149) -/

/-- Every site becomes not reachable on the channel, with its poll and reference (R143). A POLL in
transmission loses its owner's record (R139). -/
def State.clearLinks (s : State) (c : Nat) : State :=
  let ch := s.channel c
  let s1 := s.setChannel c { ch with tx := ch.tx.map (fun t => { t with orphan := true }) }
  { s1 with units := { s1.units with
      links := put s1.units.links c (Vector.replicate 16 Link.clear) } }

/-- A live order has its current attempt on the channel (R113). -/
def State.hasLiveOn (s : State) (c : Nat) : Bool :=
  s.dispatcher.orders.any (fun o => o.channel == c &&
    match o.state with
    | .queued => true
    | .sent => true
    | .rerouted => true
    | .final _ => false)

/-- The queue's waiting frames are removed, their owners told, and a loss notice sent where a TRIP
frame waited or a live order's current attempt is on the channel (R148, R149). -/
def State.clearQueue (s : State) (c : Nat) (cause : LossCause) : State :=
  let ch := s.channel c
  let lost := ch.queue.any TxFrame.isTrip || s.hasLiveOn c
  let s1 := s.setChannel c { ch with queue := [] }
  let s2 := ch.queue.foldl (fun s' f => s'.tellDropped c f) s1
  if lost then s2.send (.loss c cause) else s2

/-- The cadence without settle end and return mark (R148). -/
def Cadence.settled : Cadence → Cadence
  | .relaxed => .relaxed
  | .brisk _ _ => .brisk none false

/-- What entry to DISABLED or LOOPBACK and a reset clear alike: queue, buffers, window, progress,
references and links (R148, R149). -/
def State.clearChannel (s : State) (c : Nat) (cause : LossCause) : State :=
  let s1 := (s.clearQueue c cause).clearLinks c
  let ch := s1.channel c
  s1.setChannel c { ch with buffers := [], window := [], progress := 0 }

/-- Entry to ACQUIRING from DISABLED, LOOPBACK or a reset (R141, R142, R148, R191). -/
def State.enterAcquiring (s : State) (c : Nat) : State :=
  let ch := s.channel c
  let cadence : Cadence := if ch.alert then .brisk none false else .relaxed
  s.setChannel c { ch with
    state := .acquiring
    window := []
    progress := 0
    lastGood := s.now
    rx := .hunt []
    cadence := cadence
    cycle := some ⟨s.now, 0, s.pollPeriod cadence⟩ }

/-! ## Outcomes and judgement (R132 to R135) -/

/-- Acquire progress after one outcome (R133). -/
def stepProgress (n : Nat) (good : Bool) : Nat := if good then min (n + 1) 16 else 0

/-- The state the judgement of a frame's outcomes leads to (R133, R134). -/
def judgedState (d : ChannelDef) (ch : Channel) : ChannelState × ChannelCause :=
  let bad := badCount ch.window
  match ch.state with
  | .acquiring =>
    if d.acquireNeeded ≤ ch.progress then
      (if d.degradeThreshold ≤ bad then .degraded else .up, .acquired)
    else (.acquiring, .acquired)
  | .up => if d.degradeThreshold ≤ bad then (.degraded, .degrade) else (.up, .degrade)
  | .degraded => if bad ≤ d.degradeThreshold / 2 then (.up, .recover) else (.degraded, .recover)
  | .disabled => (.disabled, .host)
  | .down => (.down, .loss)
  | .loopback => (.loopback, .host)

/-- The channel's state is judged after the outcomes of one frame (R132). -/
def State.judgeChannel (s : State) (c : Nat) : State :=
  match s.channelDef c with
  | none => s
  | some d =>
    let ch := s.channel c
    let j := judgedState d ch
    if j.1 = ch.state then s
    else
      ((s.setChannel c { ch with state := j.1 }).reportChannel c ch.state j.1 j.2).judgeRoutes c

/-- References of a channel made absent (R131). -/
def Link.dropRef (l : Link) : Link := { l with seqRef := none }

/-- The first GOOD outcome in DOWN (R135): ACQUIRING with progress 1, window holding that outcome.
The receiver begins in the hunt (R191). -/
def State.heard (s : State) (c : Nat) : State :=
  let ch := s.channel c
  let s1 := s.setChannel c { ch with
    state := .acquiring, window := [true], progress := 1, lastGood := s.now, rx := .hunt [] }
  let row := (item s1.units.links c (Vector.replicate 16 Link.clear)).map Link.dropRef
  let s2 := { s1 with units := { s1.units with links := put s1.units.links c row } }
  (s2.reportChannel c .down .acquiring .heard).judgeRoutes c

/-- The outcomes of one frame are recorded and judged together (R132). -/
def State.recordOutcomes (s : State) (c : Nat) (outcomes : List Bool) : State :=
  let ch := s.channel c
  match ch.state with
  | .disabled => s
  | .loopback => s
  | .down => if outcomes.contains true then s.heard c else s
  | .acquiring =>
    (s.setChannel c { ch with
      window := pushOutcomes ch.window outcomes
      progress := outcomes.foldl stepProgress ch.progress
      lastGood := if outcomes.contains true then s.now else ch.lastGood }).judgeChannel c
  | .up =>
    (s.setChannel c { ch with
      window := pushOutcomes ch.window outcomes
      lastGood := if outcomes.contains true then s.now else ch.lastGood }).judgeChannel c
  | .degraded =>
    (s.setChannel c { ch with
      window := pushOutcomes ch.window outcomes
      lastGood := if outcomes.contains true then s.now else ch.lastGood }).judgeChannel c

/-! ## Probes (R151) -/

/-- Result of a probe. -/
inductive ProbeResult where
  | intact
  | corrupt
  | notReturned
deriving DecidableEq, Repr

def probeCode : ProbeResult → Nat
  | .intact => 1
  | .corrupt => 2
  | .notReturned => 3

/-- A probe ends: it is removed, and the request's DONE reply is formed (R151, R182). `time` is the return's
time, absent for NOT_RETURNED. -/
def State.endProbe (s : State) (c : Nat) (result : ProbeResult) (time : Word)
    (corrected : Bool) : State :=
  let ch := s.channel c
  (s.setChannel c { ch with probe := none }).completeRunning .none
    [wordOf (probeCode result), time, wordFlag corrected]

/-- A reset ends a probe in progress with NOT_RETURNED (R149, R151). -/
def State.abortProbe (s : State) (c : Nat) : State :=
  match (s.channel c).probe with
  | none => s
  | some _ => s.endProbe c .notReturned wordAbsent false

/-- A frame that completes in LOOPBACK is offered to a probe whose transmission has begun (R150,
R151). The time of a return before the transmission ends is a free value (log 28). -/
def State.probeReturn (s : State) (c : Nat) (h : Header) (ws : List Word) (pass : Bool) : State :=
  match (s.channel c).probe with
  | none => s
  | some p =>
    let intact := h.kind == 4 && pass && ws == p.words
    let result : ProbeResult := if intact then .intact else .corrupt
    match p.phase with
    | .queued => s
    | .sending => s.endProbe c result (Config.earlyReturn s.now) h.corrected
    | .waiting ended => s.endProbe c result (wordOf (Time.age s.now ended)) h.corrected

/-! ## Reset (R149) -/

/-- A channel is reset as R149 states, but for the state it then takes: queue, buffers, window,
references, links, outgoing sequence and probe. -/
def State.resetWorking (s : State) (c : Nat) : State :=
  let s1 := s.clearChannel c .reset
  let ch := s1.channel c
  (s1.setChannel c { ch with outSeq := 0, rx := .hunt [] }).abortProbe c

end Sys2Proof.Machine
end

