-- ==== Sys2Proof/Machine/Engine.lean ====
section
/-! DEFINITION. Shared operations of the Selection Engine (chapter 5): selections, candidate orders,
scans, queues, publication and site arm images. -/

namespace Sys2Proof.Machine

/-! ## Selections (R85) -/

/-- Sum of the credits of a list of entries (Table 5-4). -/
def sumCredits (es : List SelEntry) : Nat := (es.map SelEntry.credit).sum

def Selection.sum (x : Selection) : Nat := sumCredits x.entries

/-- SHORT: the sum is below the requirement (R87). -/
def Selection.isShort (x : Selection) : Bool := decide (x.sum < x.requirement)

/-- Deficit of a selection (R87); 0 when SUFFICIENT. -/
def Selection.deficit (x : Selection) : Nat := x.requirement - x.sum

/-- The actions of a selection, or of a never-published one (R88). -/
def selectionActions : Option Selection → List Nat
  | none => []
  | some x => x.entries.map SelEntry.action

/-- Two lists hold the same set of actions (R88). -/
def sameSet (xs ys : List Nat) : Bool := xs.all ys.contains && ys.all xs.contains

/-! ## Candidate order (R85) -/

/-- Scheme `sch` is in the action's eligible set (Table 11-5). -/
def ActionDef.eligibleFor (d : ActionDef) (sch : Nat) : Bool := d.eligible.getLsbD sch

/-- Insertion into a list sorted by rank; equal ranks keep their order. -/
def insertRank (x : Nat × Nat) : List (Nat × Nat) → List (Nat × Nat)
  | [] => [x]
  | y :: rest => if x.1 ≤ y.1 then x :: y :: rest else y :: insertRank x rest

/-- The candidate order of a scheme in a bank (R85): its eligible actions less its mandatory ones, by
rank and then by number. -/
def candidateOrder (b : Bank) (sch : Nat) : List Nat :=
  let mandatory := ((rec? b.scheme sch).map SchemeDef.mandatory).getD []
  let eligible := (List.range 96).filterMap (fun a =>
    match rec? b.action a with
    | none => none
    | some d => if d.eligibleFor sch && !mandatory.contains a then some (d.rank, a) else none)
  (eligible.foldr insertRank []).map Prod.snd

/-! ## Routine and shadow scans (R86, R87, R95) -/

/-- The bank a scan works in: the active one, or the staged one of a shadow scan (R95). -/
def State.scanBank (s : State) : PlanKind → Bank
  | .routine => s.banks.active
  | .shadow => s.banks.staged

/-- An action's availability and credit as a scan judges them: live, or in the staged view (R95). -/
def State.scanAction (s : State) (k : PlanKind) (a : Nat) : Option (Availability × Nat) :=
  match k with
  | .routine => (s.action? a).map (fun x => (x.avail, x.credit))
  | .shadow => (rec? s.pool.staged a).map (fun x => (x.avail, x.credit))

/-- The credit of an action that is AVAILABLE to the scan. -/
def State.scanCredit (s : State) (k : PlanKind) (a : Nat) : Option Nat :=
  match s.scanAction k a with
  | some (.available, credit) => some credit
  | _ => none

/-- The requirement a scan works to when it starts or restarts: the scheme's, or the prepared one
(R86, R95). That of a routine scan for a scheme whose record is absent (log 56) and that of a shadow scan without a
prepared record (log 43) are free values. -/
def State.scanRequirement (s : State) (k : PlanKind) (sch : Nat) : Nat :=
  match k with
  | .routine =>
    match (s.scheme? sch).bind Scheme.record with
    | some r => r.requirement
    | none => Config.absentRequirement s.now sch
  | .shadow =>
    match rec? s.evaluator.prepared sch with
    | some r => r.requirement
    | none => Config.unpreparedRequirement s.now sch

/-- A scan that starts or restarts, from the mandatory placement (R86). -/
def State.freshScan (s : State) (k : PlanKind) (sch : Nat) : PlanScan where
  kind := k
  scheme := sch
  phase := .mandatory 0
  list := []
  skipped := []
  requirement := s.scanRequirement k sch
  missing := false

def State.scanMandatory (s : State) (p : PlanScan) : List Nat :=
  ((rec? (s.scanBank p.kind).scheme p.scheme).map SchemeDef.mandatory).getD []

def State.scanOvershoot (s : State) (p : PlanScan) : Nat :=
  ((rec? (s.scanBank p.kind).scheme p.scheme).map SchemeDef.overshoot).getD 0

def State.scanCandidates (s : State) (p : PlanScan) : List Nat :=
  candidateOrder (s.scanBank p.kind) p.scheme

/-- The scan adds an action with its credit. -/
def PlanScan.add (p : PlanScan) (a credit : Nat) : PlanScan := { p with list := p.list ++ [⟨a, credit⟩] }

def PlanScan.sum (p : PlanScan) : Nat := sumCredits p.list

/-- The tests before a candidate or skipped action is examined (R86 steps 1 and 2, R87). -/
def PlanScan.beforeTest (p : PlanScan) : Option Termination :=
  if Config.selectionLimit ≤ p.list.length then some .full
  else if p.requirement ≤ p.sum then some .sufficient
  else none

/-- End of the walk of pass 2 (R87). -/
def PlanScan.atEnd (p : PlanScan) : Termination :=
  if p.requirement ≤ p.sum then .sufficient else .exhausted

/-- Where a scan in pass 2 stands: its end, or the scan to go on with (R87). -/
def PlanScan.settle2 (p : PlanScan) (n : Nat) : PlanScan × Option Termination :=
  let q := { p with phase := .pass2 n }
  if n < p.skipped.length then (q, p.beforeTest) else (q, some p.atEnd)

/-- Where a scan in pass 1 stands (R86, R87). -/
def PlanScan.settle1 (candidates : List Nat) (p : PlanScan) (n : Nat) :
    PlanScan × Option Termination :=
  if n < candidates.length then ({ p with phase := .pass1 n }, p.beforeTest)
  else if p.requirement ≤ p.sum then ({ p with phase := .pass1 n }, some .sufficient)
  else if p.skipped.isEmpty then ({ p with phase := .pass1 n }, some .exhausted)
  else p.settle2 0

/-- The tests a scan makes between two actions: its end, or the scan to go on with (R86, R87). -/
def State.settleScan (s : State) (p : PlanScan) : PlanScan × Option Termination :=
  match p.phase with
  | .mandatory n =>
    if n < (s.scanMandatory p).length then (p, none) else p.settle1 (s.scanCandidates p) 0
  | .pass1 n => p.settle1 (s.scanCandidates p) n
  | .pass2 n => p.settle2 n

/-- The overshoot test of R86 step 4. -/
def overshoots (allowance requirement sum credit : Nat) : Bool :=
  decide (0 < allowance) && decide (requirement + allowance < sum + credit)

/-- A scan examines one action: a mandatory one, a candidate, or a skipped one (R86, R87). -/
def State.examine (s : State) (p : PlanScan) : PlanScan :=
  match p.phase with
  | .mandatory n =>
    match (s.scanMandatory p)[n]? with
    | none => p
    | some a =>
      match s.scanCredit p.kind a with
      | some credit => { p.add a credit with phase := .mandatory (n + 1) }
      | none => { p with missing := true, phase := .mandatory (n + 1) }
  | .pass1 n =>
    match (s.scanCandidates p)[n]? with
    | none => p
    | some a =>
      match s.scanCredit p.kind a with
      | none => { p with phase := .pass1 (n + 1) }
      | some credit =>
        if overshoots (s.scanOvershoot p) p.requirement p.sum credit then
          { p with skipped := p.skipped ++ [a], phase := .pass1 (n + 1) }
        else { p.add a credit with phase := .pass1 (n + 1) }
  | .pass2 n =>
    match p.skipped[n]? with
    | none => p
    | some a =>
      match s.scanCredit p.kind a with
      | none => { p with phase := .pass2 (n + 1) }
      | some credit => { p.add a credit with phase := .pass2 (n + 1) }

/-- One step of a routine or shadow scan: the tests, one action, and the tests again. A scan that has
ended comes with its termination. -/
def State.advanceScan (s : State) (p : PlanScan) : PlanScan × Option Termination :=
  match s.settleScan p with
  | (q, some t) => (q, some t)
  | (q, none) => s.settleScan (s.examine q)

/-- The selection a scan that has ended leaves (R87, R88). -/
def PlanScan.result (p : PlanScan) (t : Termination) (now : Time) : Selection :=
  ⟨p.list, p.requirement, p.missing, t, now⟩

/-! ## The work of the Engine (R90, R91) -/

/-- A suspended scan has to restart: an action of its list is no longer AVAILABLE, or it is marked
(R91). -/
def State.mustRestart (s : State) (x : Suspended) : Bool :=
  x.restart || x.scan.list.any (fun e => (s.scanCredit x.scan.kind e.action).isNone)

/-- The Dispatcher has cancelled the cover of a scheme's execution, and the Engine has not taken that yet (R94). -/
def State.coverCancelled (s : State) (sch : Nat) : Bool := s.inFlight (fun m => decide (m = .coverCancel sch))

/-- A message about the cover of a scheme's execution goes to the Dispatcher, but for a cover that the Dispatcher
has cancelled, which starts nothing and hands nothing over (R94, R120). -/
def State.sendCover (s : State) (sch : Nat) (m : Msg) : State :=
  if s.coverCancelled sch then s else s.send m

/-- The Engine starts its next piece of work while no scan is running (R90, R91). -/
def State.startNext (s : State) : State :=
  let e := s.engine
  match e.running with
  | some _ => s
  | none =>
    match e.cover with
    | r :: rest =>
      (s.setEngine { e with cover := rest, running := some (.cover ⟨r.scheme, r.deficit, 0, []⟩) }).sendCover
        r.scheme (.coverStarted r.scheme)
    | [] =>
      match e.suspended with
      | some x =>
        let scan := if s.mustRestart x then s.freshScan x.scan.kind x.scan.scheme else x.scan
        s.setEngine { e with suspended := none, running := some (.plan scan) }
      | none =>
        match e.queue with
        | [] => s
        | q :: rest =>
          s.setEngine { e with queue := rest, running := some (.plan (s.freshScan q.kind q.scheme)) }

/-- The running scan is a scan of that kind for that scheme. -/
def Scan.isPlan (k : PlanKind) (sch : Nat) : Scan → Bool
  | .plan p => decide (p.kind = k) && p.scheme == sch
  | .cover _ => false

def Engine.runs (e : Engine) (k : PlanKind) (sch : Nat) : Bool :=
  match e.running with
  | none => false
  | some x => x.isPlan k sch

def Engine.suspends (e : Engine) (k : PlanKind) (sch : Nat) : Bool :=
  match e.suspended with
  | none => false
  | some x => (Scan.plan x.scan).isPlan k sch

def Engine.queues (e : Engine) (k : PlanKind) (sch : Nat) : Bool := e.queue.contains ⟨k, sch⟩

/-- Work of a kind for a scheme stands in the Engine. -/
def Engine.hasWork (e : Engine) (k : PlanKind) (sch : Nat) : Bool :=
  e.runs k sch || e.suspends k sch || e.queues k sch

/-- Entries of a kind for a scheme removed, and its running or suspended scan abandoned (R92, R95). -/
def Engine.dropWork (e : Engine) (k : PlanKind) (sch : Nat) : Engine :=
  { e with
    queue := e.queue.filter (fun q => !(q == ⟨k, sch⟩))
    running := if e.runs k sch then none else e.running
    suspended := if e.suspends k sch then none else e.suspended }

/-- A request for a scan of a kind, taken for a scheme that may have one (R89, R95): the running scan
restarts, a suspended one is marked, a queued one keeps its place, and else an entry joins the tail. -/
def State.queueScan (s : State) (k : PlanKind) (sch : Nat) : State :=
  let e := s.engine
  if e.runs k sch then s.setEngine { e with running := some (.plan (s.freshScan k sch)) }
  else if e.suspends k sch then
    s.setEngine { e with suspended := e.suspended.map (fun x => { x with restart := true }) }
  else if e.queues k sch then s
  else (s.setEngine { e with queue := e.queue ++ [⟨k, sch⟩] }).startNext

/-- No SHADOW entry is queued and no shadow scan is running or suspended (R95, R165). -/
def Engine.shadowIdle (e : Engine) : Bool :=
  (e.queue.all (fun q => !decide (q.kind = .shadow))) &&
  (match e.running with
    | some (.plan p) => !decide (p.kind = .shadow)
    | some (.cover _) => true
    | none => true) &&
  (match e.suspended with
    | some x => !decide (x.scan.kind = .shadow)
    | none => true)

def Msg.isShadowRequeue : Msg → Bool
  | .shadowRequeue _ => true
  | _ => false

/-- All shadow work is done: none stands in the Engine, and no requeue is on its way (log 26). -/
def State.shadowDone (s : State) : Bool := s.engine.shadowIdle && !s.inFlight Msg.isShadowRequeue

/-- The Engine tells the Bank Store that no shadow work is left (R95, R165). One notice on its way is
enough. -/
def State.noteShadow (s : State) : State :=
  if decide (s.banks.switch = .preparing) && s.shadowDone &&
      !s.inFlight (fun m => decide (m = .shadowComplete)) then
    s.send .shadowComplete
  else s

/-! ## Site arm images (R96, R97) -/

/-- A scheme's published selection counts for the images (R96): enable ON, SERVICE, ARMED or
DISARMING, as the Engine has been told. -/
def SchemeView.counts (v : SchemeView) : Bool :=
  v.enable && decide (v.mode = .service) && v.arm.isArmed

/-- The output codes of one selection's actions at a site. -/
def State.codesOf (s : State) (site : Nat) (x : Option Selection) : List Nat :=
  (selectionActions x).filterMap (fun a =>
    match s.actionDef a with
    | none => none
    | some d => if d.site = site then some d.output else none)

/-- The schemes whose published selections count for the images (R96). -/
def State.armedSchemes (s : State) : List Nat :=
  (List.range 16).filter (fun i => (item s.engine.known i SchemeView.off).counts)

/-- The codes of a site's image: each once, in ascending order (R96). -/
def State.imageCodes (s : State) (site : Nat) : List Nat :=
  let codes := s.armedSchemes.flatMap (fun i => s.codesOf site (rec? s.engine.published i))
  if codes.isEmpty then [] else (List.range 256).filter codes.contains

/-- ARM_IMAGE_UNCONFIRMED report (R96, R97): reason NO_ACK 1, TRUNCATED 2. -/
def State.reportImage (s : State) (site reason : Nat) : State :=
  s.report (mkReport .armImageUnconfirmed false s.now site
    [wordPair (s.image site).version.toNat reason])

/-- An image is sent, the `n`-th time (R97). Without a route, or where the frame is dropped, the send
is not answered. -/
def State.sendImage (s : State) (site n : Nat) : State :=
  let i := s.image site
  let s1 := s.setImage site { i with conf := .awaiting n none }
  let unrouted := s1.imageUnanswered site (((s.siteDef site).map SiteDef.primary).getD 0)
  let on (c : Nat) : State :=
    match s1.offer c (.armSet site i.version (i.codes.take Config.imageCodes)) with
    | (true, s2) => s2
    | (false, s2) => s2.imageUnanswered site c
  match (s.site site).route with
  | .none => unrouted
  | .primary c => on c
  | .alternate c => on c

/-- A new image is sent for the first time, with the report of a truncated one (R96, R97). -/
def State.sendNewImage (s : State) (site : Nat) (codes : List Nat) : State :=
  let s1 := s.setImage site { s.image site with
    codes := codes, version := (s.image site).version + 1 }
  let s2 := s1.sendImage site 1
  if Config.imageCodes < codes.length then s2.reportImage site 2 else s2

/-- A defined site's image is recomputed, and sent when it has changed (R96). -/
def State.refreshImage (s : State) (site : Nat) : State :=
  if (s.siteDef site).isNone then s
  else
    let codes := s.imageCodes site
    if codes = (s.image site).codes then s else s.sendNewImage site codes

/-- The images are recomputed (R96), by ascending site number (log 63: DESIGN CHOICE). -/
def State.refreshImages (s : State) : State :=
  (List.range 16).foldl (fun s' site => s'.refreshImage site) s

/-! ## Publication (R88) -/

/-- SELECTION_CHANGE report (R88). -/
def State.reportSelection (s : State) (sch : Nat) (x : Selection) : State :=
  s.report (mkReport .selectionChange false s.now sch
    [wordOf x.requirement, wordCapped x.sum,
      wordPair x.entries.length
        ((if x.isShort then 1 else 0) + (if x.missing then 2 else 0))])

/-- A completed working selection replaces the published one (R88). -/
def State.publish (s : State) (sch : Nat) (x : Selection) : State :=
  let old := rec? s.engine.published sch
  let s1 := s.setEngine { s.engine with published := put s.engine.published sch (some x) }
  let s2 := if sameSet (selectionActions old) (selectionActions (some x)) then s1
    else s1.reportSelection sch x
  s2.refreshImages

/-- A routine or shadow scan that has ended delivers its result, and the Engine goes on (R90). -/
def State.finishPlan (s : State) (p : PlanScan) (t : Termination) : State :=
  let x := p.result t s.now
  let s1 := s.setEngine { s.engine with running := none }
  match p.kind with
  | .routine => (s1.publish p.scheme x).startNext
  | .shadow =>
    ((s1.setEngine { s1.engine with
      shadow := put s1.engine.shadow p.scheme (some x) }).startNext).noteShadow

/-! ## Cover scans (R93, R94) -/

/-- The execution of a scheme already has an order that names the action, in any state (R93). -/
def State.hasOrder (s : State) (sch a : Nat) : Bool :=
  s.dispatcher.orders.any (fun o => o.scheme == sch && o.action == a)

/-- A cover scan examines one candidate (R93). -/
def State.examineCover (s : State) (c : CoverScan) : CoverScan :=
  match (candidateOrder s.banks.active c.scheme)[c.next]? with
  | none => c
  | some a =>
    match s.scanCredit .routine a with
    | none => { c with next := c.next + 1 }
    | some credit =>
      if s.hasOrder c.scheme a then { c with next := c.next + 1 }
      else { c with next := c.next + 1, list := c.list ++ [⟨a, credit⟩] }

/-- The cover scan ends: its deficit is met or its candidates are exhausted (R93). -/
def State.coverEnded (s : State) (c : CoverScan) : Bool :=
  decide (c.deficit ≤ sumCredits c.list) ||
    decide ((candidateOrder s.banks.active c.scheme).length ≤ c.next)

/-- The cover scan hands its list over, and the Engine goes on (R90, R93). -/
def State.finishCover (s : State) (c : CoverScan) : State :=
  ((s.setEngine { s.engine with running := none }).sendCover c.scheme (.coverHandover c.scheme c.list)).startNext

end Sys2Proof.Machine
end

