-- ==== Sys2Proof/Machine/Preparation.lean ====
section
/-! DEFINITION. Credit and availability of an action (R77, R78), and the preparation of a bank switch:
staged views, prepared evaluations, carry outcomes and shadow work (R21, R50, R95, R163). -/

namespace Sys2Proof.Machine

/-! ## Credit and availability (R77, R78) -/

/-- The action's credit and availability rest on an analog point (R77, R78). -/
def ActionDef.mwPoint (d : ActionDef) : Option Nat :=
  match d.kind, d.source with
  | .switch, _ => none
  | _, .point p => some p
  | _, .fixed _ => none

/-- The point an action names as its MW source, whatever its kind (R15, Table 5-2). -/
def ActionDef.namedPoint (d : ActionDef) : Option Nat :=
  match d.source with
  | .point p => some p
  | .fixed _ => none

/-- The used value of a usable point as a credit: 0 if it is negative (R77). -/
def creditOfUsed : UsedValue → Nat
  | .num v => v.toNat
  | .worst _ _ => 0

/-- Credited value of an action (R77), from what its MW point supplies. -/
def creditOf (d : ActionDef) (used : UsedValue) (quality : Quality) : Nat :=
  match d.kind, d.source with
  | .switch, _ => 0
  | _, .fixed v => v
  | _, .point _ => if quality.isUsable then creditOfUsed used else d.minCredit

/-- Re-evaluation of an action (R78). -/
def reevaluate (d : ActionDef) (siteUp : Bool) (quality : Option Quality) (credit : Nat) :
    Availability :=
  if !siteUp then .unavailableSite
  else if d.mwPoint.isSome && (quality.map Quality.isUsable).getD false
      && decide (credit < d.threshold) then .offline
  else .available

/-- The site's reachability as the pool was last told (R76). -/
def State.poolReach (s : State) (site : Nat) : Bool := item s.pool.siteReach site false

/-! ## Staged views of actions (R95) -/

/-- The states an action carries into its staged view (R95, R99). -/
def Availability.isCarried : Availability → Bool
  | .available => false
  | .unavailableSite => false
  | .offline => false
  | .blocked => true
  | .committed => false
  | .tripped => true
  | .uncertain => true

/-- The staged view of an action of the staged bank (R95). -/
def State.stagedAction (s : State) (a : Nat) : Option StagedAction :=
  match rec? s.banks.staged.action a with
  | none => none
  | some d =>
    let v := match d.namedPoint with
      | some p => s.stagedView p
      | none => noView
    let credit := creditOf d v.1 v.2
    let fresh := reevaluate d (s.poolReach d.site) (some v.2) credit
    let avail := match s.action? a with
      | some x => if x.avail.isCarried then x.avail else fresh
      | none => fresh
    some ⟨avail, credit⟩

/-- Two staged views differ in availability, or in credit while AVAILABLE (R95). -/
def stagedDiffers : Option StagedAction → Option StagedAction → Bool
  | some x, some y =>
    !decide (x.avail = y.avail) || (decide (y.avail = .available) && x.credit != y.credit)
  | none, none => false
  | _, _ => true

def stagedViews (s : State) : Vector (Option StagedAction) 96 :=
  Vector.ofFn (fun (a : Fin 96) => s.stagedAction a)

/-- The scheme's carry outcome is ARMING, ARMED or DISARMING (R163). -/
def State.carriesPlan (s : State) (sch : Nat) : Bool :=
  match rec? s.banks.carry sch with
  | none => false
  | some r => r.isPlanned

/-- Schemes of a bank that are eligible for one of the actions. -/
def eligibleSchemes (b : Bank) (actions : List Nat) : List Nat :=
  if actions.isEmpty then []
  else
    let defs := actions.filterMap (rec? b.action)
    (List.range 16).filter (fun sch => defs.any (fun d => d.eligibleFor sch))

/-- The staged views are brought up to date, and a requeue is sent for each scheme they reach (R95), by ascending
number (log 54: DESIGN CHOICE). -/
def State.refreshStaged (s : State) : State :=
  if s.banks.switch = .preparing then
    let new := stagedViews s
    let changed := (List.range 96).filter (fun a =>
      stagedDiffers (rec? s.pool.staged a) (rec? new a))
    let schemes := eligibleSchemes s.banks.staged changed
    ({ s with pool := { s.pool with staged := new } }).sendAll (schemes.map .shadowRequeue)
  else s

/-! ## Prepared evaluations and carry outcomes (R50, R163) -/

/-- The shadow work of a scheme is removed with its shadow selection (R163). -/
def State.dropShadow (s : State) (sch : Nat) : State :=
  let e := s.engine.dropWork .shadow sch
  let s1 := s.setEngine { e with shadow := put e.shadow sch none }
  ((s1.withdraw (fun m => decide (m = .shadowRequeue sch))).startNext).noteShadow

/-- A staged scheme's prepared record and carry outcome differ from those it had (R50); at the entry to PREPARING
it had none to differ from. -/
def State.preparedDiffers (s : State) (sch : Nat) (r : Option EvalRec) (outcome : Reported) : Bool :=
  match rec? s.banks.carry sch with
  | none => false
  | some old => decide (old ≠ outcome) ||
      decide ((rec? s.evaluator.prepared sch).map EvalRec.requirement ≠ r.map EvalRec.requirement)

/-- A staged scheme's prepared record and carry outcome become these, and its shadow work follows: queued when it
moves into ARMING, ARMED or DISARMING, removed when it moves out (R163), and else requeued, whatever the outcome, at
an evaluation that changes requirement or outcome (R50, R95), and at any change of outcome inside the three states
(R163). `evaluated` says that `r` is a new evaluation (log 53). -/
def State.setPrepared (s : State) (sch : Nat) (evaluated : Bool) (r : Option EvalRec) (outcome : Reported) :
    State :=
  let wasPlanned := s.carriesPlan sch
  let s1 := { s with
    evaluator := { s.evaluator with prepared := put s.evaluator.prepared sch r }
    banks := { s.banks with carry := put s.banks.carry sch (some outcome) } }
  if outcome.isPlanned && !wasPlanned then s1.queueScan .shadow sch
  else if wasPlanned && !outcome.isPlanned then s1.dropShadow sch
  else if (evaluated || wasPlanned) && s.preparedDiffers sch r outcome then s1.send (.shadowRequeue sch)
  else s1

/-- Prepared evaluation and carry outcome of one staged scheme (R50, R163). The evaluation is made where there
is none or `renew` asks for it, and else the one made before stands. -/
def State.prepareScheme (renew : Bool) (s : State) (sch : Nat) : State :=
  match rec? s.banks.staged.scheme sch with
  | none => s
  | some d =>
    let live := s.scheme? sch
    if enableAfter d live then
      let made := if renew then none else rec? s.evaluator.prepared sch
      let r := made.getD (evaluate d s.stagedView s.now)
      s.setPrepared sch made.isNone (some r) (carryRule d s.now live r.q).1
    else s.setPrepared sch false none .off

/-- A scheme's live state has changed: its carry outcome is determined again (R163). -/
def State.refreshCarry (s : State) (sch : Nat) : State :=
  if s.banks.switch = .preparing then s.prepareScheme false sch else s

/-- The analog points whose staged views have changed since they were last delivered (R21). -/
def State.movedViews (s : State) : List Nat :=
  (List.range 64).filter (fun a => viewMoved (rec? s.views.analog a) (s.stagedAnalog a))

/-- The schemes of the staged bank that a batch of staged-view notices reaches (R21, R50). -/
def State.viewUsers (s : State) (moved : List Nat) : List Nat :=
  (List.range 16).filter (fun sch =>
    match rec? s.banks.staged.scheme sch with
    | none => false
    | some d => d.inputs.any (fun i => moved.contains i.point))

/-- The staged views are brought up to date, and their notices are taken in this step (R21): every prepared
evaluation that one reaches is made again (R50), by ascending scheme number, and the staged views of the actions follow
(R95). R163 orders the schemes at the entry to PREPARING alone; the order here is the model's (log 54: DESIGN CHOICE). -/
def State.refreshPreparation (s : State) : State :=
  if s.banks.switch = .preparing then
    let schemes := s.viewUsers s.movedViews
    (schemes.foldl (State.prepareScheme true) { s with views := s.stagedPoints }).refreshStaged
  else s

/-- Entry to PREPARING (R163). -/
def State.startPreparation (s : State) : State :=
  let s1 := { s with
    banks := { s.banks with switch := .preparing, carry := Vector.replicate 16 none }
    views := s.stagedPoints
    evaluator := { s.evaluator with prepared := Vector.replicate 16 none }
    pool := { s.pool with staged := stagedViews s } }
  ((List.range 16).foldl (State.prepareScheme true) s1).noteShadow

/-- Every SHADOW entry, shadow scan and shadow selection removed (R95). -/
def Engine.dropAllShadow (e : Engine) : Engine :=
  { e with
    queue := e.queue.filter (fun q => !decide (q.kind = .shadow))
    running := match e.running with
      | some (.plan p) => if p.kind = .shadow then none else e.running
      | some (.cover _) => e.running
      | none => none
    suspended := match e.suspended with
      | some x => if x.scan.kind = .shadow then none else e.suspended
      | none => none
    shadow := Vector.replicate 16 none }

/-- The preparation ends without a commit: prepared records, staged views and shadow work go, and the
switch takes the state `next` (R50, R95, R164, R168). -/
def State.endPreparation (s : State) (next : SwitchState) : State :=
  let s1 := { s with
    banks := { s.banks with switch := next, carry := Vector.replicate 16 none }
    views := StagedPoints.none
    evaluator := { s.evaluator with prepared := Vector.replicate 16 none }
    pool := { s.pool with staged := Vector.replicate 96 none }
    engine := s.engine.dropAllShadow }
  (s1.withdraw Msg.isShadowRequeue).startNext

/-! ## Quiescence (R162) -/

/-- A hand-off of some detection awaits its answer (R32). -/
def State.anyAwaiting (s : State) : Bool :=
  s.detector.toList.any (fun x =>
    match x with
    | none => false
    | some k => !k.awaiting.isEmpty)

/-- Some contingency is PENDING (R29). -/
def State.anyPending (s : State) : Bool :=
  s.detector.toList.any (fun x =>
    match x with
    | none => false
    | some k => decide (k.state = .pending))

/-- Some scheme is EXECUTING (R72). -/
def State.anyExecuting (s : State) : Bool :=
  s.evaluator.schemes.toList.any (fun x =>
    match x with
    | none => false
    | some y => decide (y.arm = .executing))

/-- The part is quiescent (R162). -/
def State.quiescent (s : State) : Bool := !s.anyExecuting && !s.anyPending && !s.anyAwaiting

/-- The quiescence judgement of a PENDING switch (R162). -/
def State.judgeQuiescence (s : State) : State :=
  if s.banks.switch = .pending ∧ s.quiescent = true then s.startPreparation else s

end Sys2Proof.Machine
end

