-- ==== Sys2Proof/Machine/Banks.lean ====
section
/-! DEFINITION. The Bank Store but for the commit (chapter 8): building, sealing and reading a bank, and the
switch up to PREPARING. -/

namespace Sys2Proof.Machine

/-! ## Codes and reports (R170, R194) -/

def switchCode : SwitchState → Nat
  | .idle => 1
  | .pending => 2
  | .preparing => 3

def checkCode : SealCheck → Nat
  | .reference => 1
  | .curveOrder => 2
  | .armLevels => 3
  | .mandatory => 4
  | .siteChannels => 5
  | .slotClash => 6
  | .timing => 7
  | .trigger => 8

/-- BANK_EVENT report (R170): events REJECTED 1, ABORTED 2, CANCELLED 3, COMMITTED 4 in word 4. -/
def State.reportBank (s : State) (event : Nat) (w0 w1 w2 w3 : Word) : State :=
  s.report (mkReport .bankEvent false s.now 0 [w0, w1, w2, w3, wordOf event])

def State.mapStaged (s : State) (f : Bank → Bank) : State :=
  { s with banks := { s.banks with staged := f s.banks.staged } }

/-- The switch is PENDING or PREPARING, which locks the staged bank (R156 to R158, R161). -/
def State.isLocked (s : State) : Bool := !decide (s.banks.switch = .idle)

/-! ## STAGE_OPEN (R156) -/

/-- STAGE_OPEN's owning rule (R156). -/
def stageOpenRule (ws : List Word) (s : State) : Answer :=
  let option := (wordAt ws 0).toNat
  let label := wordAt ws 1
  let open_ (b : Bank) : Answer :=
    let s1 := s.mapStaged (fun _ => { b with
      label := label, check := none, state := .opened, sealFailure := none })
    .done [wordOf (bankStateCode .opened), label] s1
  if s.isLocked then .refuse .bankLocked s
  else if option = 1 then open_ Bank.empty
  else if option = 2 then open_ s.banks.active
  else .refuse .outOfRange s

/-- STAGE_OPEN (R156). -/
def execStageOpen (s : State) : Host.Outcome State Fault Refusal :=
  .next (s.carryOut 0x21 anyRequest (isLength 2) stageOpenRule)

/-! ## STAGE_WRITE (R157, R194) -/

/-- The number of words after the first two that a DEFINED record of a class and index may have. An index
above 191 names no point, so either length of the class passes (log 12). -/
def definedLengths (c : RecordClass) (index : Nat) : List Nat :=
  match c with
  | .point => if 191 < index then [3, 6] else [classWords .point index]
  | _ => [classWords c index]

/-- The length check of STAGE_WRITE (R175, R194). -/
def stageWriteLength (ws : List Word) : Bool :=
  match ws with
  | [] => false
  | w :: rest =>
    match classOf (hi w) with
    | none => true
    | some c =>
      match rest with
      | [] => false
      | mark :: fields =>
        if hi mark = 0 then fields.isEmpty
        else if hi mark = 1 then (definedLengths c (lo w)).contains fields.length
        else fields.isEmpty || (definedLengths c (lo w)).contains fields.length

/-- The DONE reply of STAGE_WRITE: class, index, whether DEFINED (R157). -/
def stageWriteDone (c : RecordClass) (index : Nat) (isDefined : Bool) (s : State) : Answer :=
  .done [wordOf (classCode c), wordOf index, wordFlag isDefined] s

/-- STAGE_WRITE's owning rule (R157). -/
def stageWriteRule (ws : List Word) (s : State) : Answer :=
  let w := wordAt ws 0
  let mark := wordAt ws 1
  if s.isLocked then .refuse .bankLocked s
  else if s.banks.staged.state ≠ .opened then .refuse .badState s
  else
    match classOf (hi w) with
    | none => .refuse .outOfRange s
    | some c =>
      if classLast c < lo w then .refuse .outOfRange s
      else if mark = 0x0000 then
        stageWriteDone c (lo w) false (s.mapStaged (fun b => b.undefine c (lo w)))
      else if mark = 0x0100 then
        match readRecord c (lo w) (ws.drop 2) with
        | none => .refuse .outOfRange s
        | some r => stageWriteDone c (lo w) true (s.mapStaged (fun b => b.setRecord (lo w) r))
      else .refuse .outOfRange s

/-- STAGE_WRITE (R157). -/
def execStageWrite (s : State) : Host.Outcome State Fault Refusal :=
  .next (s.carryOut 0x22 anyRequest stageWriteLength stageWriteRule)

/-! ## STAGE_SEAL (R158, R159) -/

/-- The lowest index below `n` at which a DEFINED record fails. -/
def firstFailing {α : Type} {n : Nat} (v : Vector (Option α) n) (fails : Nat → α → Bool) : Option Nat :=
  (List.range n).find? (fun i =>
    match rec? v i with
    | none => false
    | some d => fails i d)

/-- The POINT class index of the first failing point: analog before status. -/
def firstPoint (a : Option Nat) (st : Option Nat) : Option Nat :=
  match a with
  | some i => some i
  | none => st.map (fun i => 64 + i)

/-- A source names a site with no DEFINED record. -/
def Source.dangles (b : Bank) : Source → Bool
  | .slot site _ => (rec? b.site site).isNone
  | .loc => false

/-- REFERENCE for a term (Table 8-4). -/
def TermDef.dangles (b : Bank) (t : TermDef) : Bool :=
  (match t.indication with
    | some (site, _) => (rec? b.site site).isNone
    | none => false) ||
  (match t.check with
    | some p => (rec? b.status p).isNone
    | none => false)

/-- REFERENCE for a scheme (Table 8-4). -/
def SchemeDef.dangles (b : Bank) (d : SchemeDef) : Bool :=
  d.inputs.any (fun i => (rec? b.analog i.point).isNone) ||
    d.mandatory.any (fun a => (rec? b.action a).isNone)

/-- REFERENCE for an action (Table 8-4). -/
def ActionDef.dangles (b : Bank) (d : ActionDef) : Bool :=
  (rec? b.site d.site).isNone ||
    (match d.namedPoint with
      | some p => (rec? b.analog p).isNone
      | none => false) ||
    (List.range 16).any (fun sch => d.eligibleFor sch && (rec? b.scheme sch).isNone)

/-- REFERENCE for a site (Table 8-4). -/
def SiteDef.dangles (b : Bank) (d : SiteDef) : Bool :=
  d.channels.any (fun c => (rec? b.channel c).isNone) || b.params.isNone

/-- The first record in class order that fails REFERENCE (Table 8-4). -/
def checkReference (b : Bank) : Option (RecordClass × Nat) :=
  (firstPoint (firstFailing b.analog (fun _ d => d.source.dangles b))
      (firstFailing b.status (fun _ d => d.source.dangles b))).map (fun i => (.point, i)) <|>
    (firstFailing b.contingency (fun _ d => d.terms.any (TermDef.dangles b))).map
      (fun i => (.contingency, i)) <|>
    (firstFailing b.scheme (fun _ d => d.dangles b)).map (fun i => (.scheme, i)) <|>
    (firstFailing b.action (fun _ d => d.dangles b)).map (fun i => (.action, i)) <|>
    (firstFailing b.site (fun _ d => d.dangles b)).map (fun i => (.site, i)) <|>
    (firstFailing b.channel (fun _ _ => b.params.isNone)).map (fun i => (.channel, i))

/-- The x values are strictly increasing (Table 8-4). -/
def increasing : List (Int × Nat) → Bool
  | [] => true
  | p :: rest =>
    match rest with
    | [] => true
    | r :: _ => decide (p.1 < r.1) && increasing rest

/-- A list names one number twice. -/
def hasTwice : List Nat → Bool
  | [] => false
  | x :: rest => rest.contains x || hasTwice rest

/-- MANDATORY for a scheme (Table 8-4). -/
def SchemeDef.badMandatory (b : Bank) (i : Nat) (d : SchemeDef) : Bool :=
  d.mandatory.any (fun a =>
    match rec? b.action a with
    | none => true
    | some x => !decide (x.kind = .switch) || !x.eligibleFor i) || hasTwice d.mandatory

/-- A source that a lower-numbered one of the list shares; LOCAL takes no part (Table 8-4). -/
def clashes (lower : List Source) (x : Source) : Bool :=
  match x with
  | .loc => false
  | .slot _ _ => lower.contains x

/-- The sources of the records below `i`. -/
def sourcesBelow {α : Type} {n : Nat} (v : Vector (Option α) n) (f : α → Source) (i : Nat) : List Source :=
  (List.range i).filterMap (fun j => (rec? v j).map f)

/-- SLOT_CLASH (Table 8-4). -/
def checkSlots (b : Bank) : Option (RecordClass × Nat) :=
  (firstPoint
    (firstFailing b.analog (fun i d => clashes (sourcesBelow b.analog AnalogDef.source i) d.source))
    (firstFailing b.status (fun i d => clashes (sourcesBelow b.status StatusDef.source i) d.source))).map
    (fun i => (.point, i))

/-- TIMING for a channel (Table 8-4). -/
def ChannelDef.badTiming (p : Option ParamsDef) (d : ChannelDef) : Bool :=
  match p with
  | none => true
  | some q => decide (d.lossTime ≤ q.relaxedPeriod) || decide (q.briskPeriod ≤ d.replyTimeout)

/-- One seal check: the first record that fails it (Table 8-4). -/
def runCheck (b : Bank) : SealCheck → Option (RecordClass × Nat)
  | .reference => checkReference b
  | .curveOrder => (firstFailing b.scheme (fun _ d => !increasing d.curve)).map (fun i => (.scheme, i))
  | .armLevels =>
    (firstFailing b.scheme (fun _ d => decide (d.armOn < d.armOff))).map (fun i => (.scheme, i))
  | .mandatory => (firstFailing b.scheme (fun i d => d.badMandatory b i)).map (fun i => (.scheme, i))
  | .siteChannels =>
    (firstFailing b.site (fun _ d => decide (d.alternate = some d.primary))).map (fun i => (.site, i))
  | .slotClash => checkSlots b
  | .timing => (firstFailing b.channel (fun _ d => d.badTiming b.params)).map (fun i => (.channel, i))
  | .trigger =>
    (firstFailing b.scheme (fun _ d => (rec? b.contingency d.trigger).isNone)).map (fun i => (.scheme, i))

def allChecks : List SealCheck :=
  [.reference, .curveOrder, .armLevels, .mandatory, .siteChannels, .slotClash, .timing, .trigger]

/-- The first failure in the order of Table 8-4 (R158). -/
def sealFailureOf (b : Bank) : Option SealFailure :=
  allChecks.findSome? (fun k => (runCheck b k).map (fun f => ⟨f.1, f.2, k⟩))

/-- The words of a check value, the more significant first (R158, R170; log 51). -/
def checkWords (v : BitVec 32) : List Word := wordsTime v

/-- STAGE_SEAL's owning rule (R158, R159). -/
def stageSealRule (_ : List Word) (s : State) : Answer :=
  let b := s.banks.staged
  if s.isLocked then .refuse .bankLocked s
  else if b.state ≠ .opened then .refuse .badState s
  else
    match sealFailureOf b with
    | none =>
      let v := b.checkValue
      .done (b.label :: checkWords v) (s.mapStaged (fun x => { x with state := .sealed, check := some v }))
    | some f =>
      let s1 := s.mapStaged (fun x => { x with state := .rejected, sealFailure := some f })
      ⟨.checkFailed, [wordOf (classCode f.cls), wordOf f.index, wordOf (checkCode f.check)],
        s1.reportBank 1 b.label (wordPair (classCode f.cls) f.index) (wordOf (checkCode f.check)) 0⟩

/-- STAGE_SEAL (R158). -/
def execStageSeal (s : State) : Host.Outcome State Fault Refusal :=
  .next (s.carryOut 0x23 anyRequest (isLength 0) stageSealRule)

/-! ## BANK_READ (R160) -/

/-- BANK_READ's owning rule (R160). -/
def bankReadRule (ws : List Word) (s : State) : Answer :=
  let w := wordAt ws 1
  let answer (b : Bank) : Answer :=
    match classOf (hi w) with
    | none => .refuse .outOfRange s
    | some c =>
      if classLast c < lo w then .refuse .outOfRange s
      else .done ([wordOf (bankStateCode b.state), b.label] ++ recordForm b c (lo w)) s
  let bank := (wordAt ws 0).toNat
  if bank = 1 then answer s.banks.active
  else if bank = 2 then answer s.banks.staged
  else .refuse .outOfRange s

/-- BANK_READ (R160). -/
def execBankRead (s : State) : Host.Outcome State Fault Refusal :=
  .next (s.carryOut 0x26 anyRequest (isLength 2) bankReadRule)

/-! ## The switch (R161, R162, R164, R168) -/

/-- BANK_SWITCH's owning rule (R161). -/
def bankSwitchRule (_ : List Word) (s : State) : Answer :=
  if s.isLocked then .refuse .bankLocked s
  else if s.banks.staged.state ≠ .sealed then .refuse .badState s
  else
    let s1 := { s with banks := { s.banks with
      switch := .pending, requested := some s.banks.staged.label } }
    let s2 := s1.judgeQuiescence
    .done [wordOf (switchCode s2.banks.switch)] s2

/-- BANK_SWITCH (R161). -/
def execBankSwitch (s : State) : Host.Outcome State Fault Refusal :=
  .next (s.carryOut 0x24 anyRequest (isLength 0) bankSwitchRule)

/-- A switch is cancelled (R168, R169): cause HOST 1, RESTART 2. -/
def State.cancelSwitch (s : State) (cause : Nat) : State :=
  let label := s.banks.requested.getD 0
  let s1 := s.endPreparation .idle
  ({ s1 with banks := { s1.banks with requested := none } }).reportBank 3 label (wordOf cause) 0 0

/-- BANK_CANCEL's owning rule (R168). -/
def bankCancelRule (_ : List Word) (s : State) : Answer :=
  if s.isLocked then .done [] (s.cancelSwitch 1) else .refuse .badState s

/-- BANK_CANCEL (R168). -/
def execBankCancel (s : State) : Host.Outcome State Fault Refusal :=
  .next (s.carryOut 0x25 anyRequest (isLength 0) bankCancelRule)

/-- The preparation is aborted to PENDING, with the contingency that caused it (R164, R165). -/
def State.abortPreparation (s : State) (k : Nat) : State :=
  (s.endPreparation .pending).reportBank 2 (s.banks.requested.getD 0) (wordOf k) 0 0

def firstEvidence? (k : Nat) : Msg → Option Unit
  | .firstEvidence j => if j = k then some () else none
  | _ => none

/-- FIRST_EVIDENCE_NOTICE (R164). -/
def execFirstEvidenceNotice (k : Fin 32) (s : State) : Host.Outcome State Fault Refusal :=
  .next (match s.take (fun m => (firstEvidence? k m).isSome) (firstEvidence? k) with
    | none => s
    | some (_, s1) => if s1.banks.switch = .preparing then s1.abortPreparation k else s1)

def quiescence? : Msg → Option Unit
  | .quiescence => some ()
  | _ => none

/-- QUIESCENCE_NOTICE (R162). -/
def execQuiescenceNotice (s : State) : Host.Outcome State Fault Refusal :=
  .next (match s.take (fun m => (quiescence? m).isSome) quiescence? with
    | none => s
    | some (_, s1) => s1.judgeQuiescence)

end Sys2Proof.Machine
end

