-- ==== Sys2Proof/Machine/ChannelCommands.lean ====
section
/-! DEFINITION. Commands of the Channel Units (chapter 7): host controls, reception, transmission,
polling, reachability, cadence and probes. -/

namespace Sys2Proof.Machine

/-! ## CHANNEL_SET (R128, R148, R149) -/

/-- The DONE reply of CHANNEL_SET: the channel's state after the request (7.8). -/
def channelDone (c : Nat) (s : State) : Answer :=
  Answer.done [wordOf (channelStateCode (s.channel c).state)] s

/-- CHANNEL_SET: channel number, definition, control code, then the control (R128, 7.8). -/
def channelRule (control : Nat → State → Answer) (ws : List Word) (s : State) : Answer :=
  let w := wordAt ws 0
  let c := hi w
  if 8 ≤ c then .refuse .outOfRange s
  else if (s.channelDef c).isNone then .refuse .noItem s
  else if lo w = 0 ∨ 5 < lo w then .refuse .outOfRange s
  else control c s

/-- A CHANNEL_SET request of one control. -/
def State.channelSet (s : State) (code : Nat) (control : Nat → State → Answer) : State :=
  s.carryOut 0x30 (controlIs lo code 5) (isLength 1) (channelRule control)

/-- ACQUIRING as for ENABLE, reported and followed (R148). -/
def State.bringUp (s : State) (c : Nat) (cause : ChannelCause) : State :=
  let old := (s.channel c).state
  ((s.enterAcquiring c).noteChannel c old cause).followChannel c

/-- ENABLE (R148). -/
def enableControl (c : Nat) (s : State) : Answer :=
  match (s.channel c).state with
  | .disabled => channelDone c (s.bringUp c .host)
  | _ => channelDone c s

/-- DISABLED or LOOPBACK with the clearing of R148: polling stops and the cadence's marks go. -/
def State.takeOut (s : State) (c : Nat) (new : ChannelState) (cause : LossCause) : State :=
  let old := (s.channel c).state
  let s1 := s.clearChannel c cause
  let ch := s1.channel c
  let s2 := s1.setChannel c { ch with state := new, cycle := none, cadence := ch.cadence.settled }
  (s2.noteChannel c old .host).followChannel c

/-- DISABLE (R148). -/
def disableControl (c : Nat) (s : State) : Answer :=
  match (s.channel c).state with
  | .disabled => channelDone c s
  | _ => channelDone c (s.takeOut c .disabled .disabled)

/-- The receiver begins in the hunt (R191). -/
def State.huntAgain (s : State) (c : Nat) : State := s.setChannel c { s.channel c with rx := .hunt [] }

/-- LOOPBACK (R148, R191). -/
def loopbackControl (c : Nat) (s : State) : Answer :=
  match (s.channel c).state with
  | .disabled => .refuse .badState s
  | .loopback => channelDone c s
  | _ => channelDone c ((s.takeOut c .loopback .loopback).huntAgain c)

/-- NORMAL (R148). -/
def normalControl (c : Nat) (s : State) : Answer :=
  match (s.channel c).state with
  | .loopback => channelDone c (s.bringUp c .host)
  | _ => .refuse .badState s

/-- RESET by the host (R149): a DISABLED channel stays so; any other enters ACQUIRING, and a channel
already there is reported too. -/
def State.hostReset (s : State) (c : Nat) : State :=
  let old := (s.channel c).state
  let s1 := s.resetWorking c
  if old = .disabled then s1.followChannel c
  else ((s1.enterAcquiring c).reportChannel c old .acquiring .reset).followChannel c

def resetControl (c : Nat) (s : State) : Answer := channelDone c (s.hostReset c)

/-- CHANNEL_SET_ENABLE (R148). -/
def execChannelSetEnable (s : State) : Host.Outcome State Fault Refusal :=
  .next (s.channelSet 1 enableControl)

/-- CHANNEL_SET_DISABLE (R148). -/
def execChannelSetDisable (s : State) : Host.Outcome State Fault Refusal :=
  .next (s.channelSet 2 disableControl)

/-- CHANNEL_SET_LOOPBACK (R148). -/
def execChannelSetLoopback (s : State) : Host.Outcome State Fault Refusal :=
  .next (s.channelSet 3 loopbackControl)

/-- CHANNEL_SET_NORMAL (R148). -/
def execChannelSetNormal (s : State) : Host.Outcome State Fault Refusal :=
  .next (s.channelSet 4 normalControl)

/-- CHANNEL_SET_RESET (R149). -/
def execChannelSetReset (s : State) : Host.Outcome State Fault Refusal :=
  .next (s.channelSet 5 resetControl)

/-! ## CHANNEL_PROBE (R151, R182) -/

/-- The length of CHANNEL_PROBE: one word and as many as its count (Table 11-8). -/
def probeLength (ws : List Word) : Bool :=
  match ws with
  | [] => false
  | w :: rest => rest.length == lo w

/-- CHANNEL_PROBE is refused for its channel, its count or the channel's state (R128, R151). -/
def probeRefusal (w : Word) (s : State) : Option Reason :=
  let c := hi w
  if 8 ≤ c then some .outOfRange
  else if (s.channelDef c).isNone then some .noItem
  else if lo w = 0 ∨ 16 < lo w then some .outOfRange
  else if (s.channel c).state ≠ .loopback then some .badState
  else none

/-- The probe is created and its PROBE frame offered; the request is held (R151, R182). -/
def State.startProbe (s : State) (c : Nat) (words : List Word) : State :=
  let s1 := s.setChannel c { s.channel c with probe := some ⟨words, .queued⟩ }
  ((s1.offer c (.probe words)).2).hold

/-- CHANNEL_PROBE (R151, R182). -/
def execChannelProbe (s : State) : Host.Outcome State Fault Refusal :=
  .next (match s.nextRequest 0x31 with
    | none => s
    | some r =>
      if !probeLength r.words then s.replyTo r .badFrame []
      else
        match probeRefusal (wordAt r.words 0) s with
        | some reason => s.replyTo r reason []
        | none => s.startProbe (hi (wordAt r.words 0)) (r.words.drop 1))

/-- PROBE_TIMEOUT (R151): no frame has returned within the loss time after the transmission end. -/
def execProbeTimeout (c : Fin 8) (s : State) : Host.Outcome State Fault Refusal :=
  .next (match (s.channel c).probe, s.channelDef c with
    | some ⟨_, .waiting ended⟩, some d =>
      if counts d.lossTime ≤ Time.age s.now ended then s.endProbe c .notReturned wordAbsent false else s
    | _, _ => s)

/-! ## Reception (R130, R131, R136, R137) -/

/-- The payload CRC passes; a frame of length 0 has none (R192). -/
def crcPasses (h : Header) (payload : List Byte) (crc : Word) : Bool :=
  h.length == 0 || crc16 payload == crc

/-- A frame completes while both buffers hold frames (R137). -/
def State.overrun (s : State) (c : Nat) (h : Header) : State :=
  (s.recordOutcomes c [false]).report
    (mkReport .rxOverrun false s.now c [wordPair h.kind h.address])

/-- CHANNEL_FRAME_COMPLETE (R130, R137, R150): the frame takes a FREE buffer, is an overrun, or in
LOOPBACK is offered to a probe. -/
def execChannelFrameComplete (c : Fin 8) (payload : List Byte) (crc : Word) (s : State) :
    Host.Outcome State Fault Refusal :=
  .next (
    let ch := s.channel c
    match ch.rx with
    | .hunt _ => s
    | .header _ => s
    | .body h =>
      if payload.length ≠ 2 * h.length then s
      else
        let s1 := s.huntAgain c
        match ch.state with
        | .disabled => s
        | .loopback => s1.probeReturn c h (bytesToWords payload) (crcPasses h payload crc)
        | _ =>
          if ch.buffers.length < Config.rxBuffers then
            s1.setChannel c { s1.channel c with buffers := ch.buffers ++ [⟨h, payload, crc, none⟩] }
          else s1.overrun c h)

/-- The outcomes of a frame that has passed the address check; none when it is a repeat (R131). -/
def sequenceOutcomes (reference : Option Nat) (n : Nat) : Option (List Bool) :=
  match reference with
  | none => some [true]
  | some l =>
    let d := (n + 16 - l) % 16
    if d = 0 then none else some (List.replicate (d - 1) false ++ [true])

/-- The owners that have to take a frame's content; none when it is of another kind or malformed
(R130, R136, R193). -/
def frameOwners (f : RxFrame) : List Owner :=
  match readSiteFrame f.header.kind (bytesToWords f.payload) with
  | none => []
  | some x => x.owners

/-- RECEIVE_BUFFER_CHECK (R130 to R136): the oldest frame not yet checked. -/
def execReceiveBufferCheck (c : Fin 8) (s : State) : Host.Outcome State Fault Refusal :=
  .next (
    let ch := s.channel c
    if !ch.state.inService then s
    else
      match ch.buffers.findIdx? (fun f => f.owners.isNone) with
      | none => s
      | some i =>
        match ch.buffers[i]? with
        | none => s
        | some f =>
          let freed := s.setChannel c { ch with buffers := ch.buffers.eraseIdx i }
          let site := f.header.address
          if !crcPasses f.header f.payload f.crc then freed.recordOutcomes c [false]
          else if !s.serves c site then freed.recordOutcomes c [false]
          else
            match sequenceOutcomes (s.link c site).seqRef f.header.sequence with
            | none => freed
            | some outcomes =>
              let owners := frameOwners f
              let kept := if owners.isEmpty then freed
                else s.setChannel c { ch with
                  buffers := ch.buffers.set i { f with owners := some owners } }
              let s1 := kept.recordOutcomes c outcomes
              s1.setLink c site { s1.link c site with seqRef := some f.header.sequence })

/-- The frame still has to be taken by the owner (R136). -/
def RxFrame.owedTo (o : Owner) (f : RxFrame) : Bool :=
  match f.owners with
  | none => false
  | some os => os.contains o

/-- An owner takes the frame that completed first, where it is owed to it; a later frame waits until every owner of the
first has taken that (R130). The buffer is FREE when the last owner has (R136). -/
def State.takeFrame (s : State) (c : Nat) (o : Owner) : Option (RxFrame × State) :=
  let ch := s.channel c
  match ch.buffers with
  | [] => none
  | f :: rest =>
    if f.owedTo o then
      let owners := (f.owners.getD []).filter (fun x => !decide (x = o))
      let buffers := if owners.isEmpty then rest else { f with owners := some owners } :: rest
      some (f, s.setChannel c { ch with buffers := buffers })
    else none

/-- POLL_ANSWER (R143). -/
def execPollAnswer (c : Fin 8) (s : State) : Host.Outcome State Fault Refusal :=
  .next (match s.takeFrame c .pollTracking with
    | none => s
    | some (f, s1) =>
      let site := f.header.address
      let l := s1.link c site
      match l.poll with
      | .none => s1
      | .queued => s1
      | .awaiting _ =>
        let s2 := s1.setLink c site { l with poll := .none, missed := 0, reachable := true }
        if l.reachable then s2 else s2.reachChanged c site)

/-! ## Transmission (R107, R139) -/

/-- A TRIP frame's transmission has ended: its order becomes SENT, or stays REROUTED, and its
confirmation timeout starts (R107). A superseded attempt changes nothing (R139). -/
def Order.transmitted (now : Time) (timeout serial attempt : Nat) (o : Order) : Order :=
  if o.serial = serial ∧ o.attempt = attempt then
    let sent := { o with sendTime := some now, timeoutEnd := some (Time.after now timeout) }
    match o.state with
    | .queued => { sent with state := .sent }
    | .rerouted => sent
    | .sent => o
    | .final _ => o
  else o

/-- Confirmation timeout of a channel, in counts (R107). -/
def State.confirmTimeout (s : State) (c : Nat) : Nat :=
  match s.channelDef c with
  | none => 0
  | some d => counts d.confirmTimeout

/-- The owner of a frame whose transmission has ended is told (R139). -/
def State.tellSent (s : State) (c : Nat) (t : Sending) : State :=
  match t.frame with
  | .poll site =>
    let l := s.link c site
    if !t.orphan ∧ l.poll = .queued then
      s.setLink c site { l with poll := .awaiting (Time.after s.now (s.replyTimeout c)) }
    else s
  | .trip _ serial _ _ attempt _ =>
    s.mapOrders (Order.transmitted s.now (s.confirmTimeout c) serial attempt)
  | .armSet site version _ =>
    if version = (s.image site).version then s.imageUnanswered site c else s
  | .probe _ =>
    let ch := s.channel c
    match ch.probe with
    | some ⟨words, .sending⟩ =>
      s.setChannel c { ch with probe := some ⟨words, .waiting s.now⟩ }
    | _ => s

/-- TRANSMISSION_END (R139). -/
def execTransmissionEnd (c : Fin 8) (s : State) : Host.Outcome State Fault Refusal :=
  .next (match (s.channel c).tx with
    | none => s
    | some t => ((s.setChannel c { s.channel c with tx := none }).tellSent c t).startTx c)

/-! ## Polling (R141 to R143) -/

/-- Due time of position `j` of a cycle over `k` sites, rounded down to 0.1 ms (R141). -/
def PollCycle.due (p : PollCycle) (j k : Nat) : Time := Time.after p.start (j * p.period / k)

/-- POLL_DUE (R141). -/
def execPollDue (c : Fin 8) (s : State) : Host.Outcome State Fault Refusal :=
  .next (
    let ch := s.channel c
    match ch.cycle with
    | none => s
    | some p =>
      let sites := s.served c
      match sites[p.position]? with
      | none => s
      | some site =>
        if ch.state.inService && Time.reached s.now (p.due p.position sites.length) then
          let s1 := s.setChannel c { ch with cycle := some { p with position := p.position + 1 } }
          if (s.link c site).poll = .none then (s1.offer c (.poll site)).2 else s1
        else s)

/-- The return mark is taken at a cycle start: the cadence becomes RELAXED (R142). -/
def Cadence.atCycleStart : Cadence → Cadence
  | .relaxed => .relaxed
  | .brisk start mark => if mark then .relaxed else .brisk start mark

/-- POLL_CYCLE_START (R141, R142): one period after the last cycle, once its positions are taken. -/
def execPollCycleStart (c : Fin 8) (s : State) : Host.Outcome State Fault Refusal :=
  .next (
    let ch := s.channel c
    match ch.cycle with
    | none => s
    | some p =>
      let start := Time.after p.start p.period
      if ch.state.inService && decide ((s.served c).length ≤ p.position)
          && Time.reached s.now start then
        let cadence := ch.cadence.atCycleStart
        s.setChannel c { ch with cadence := cadence, cycle := some ⟨start, 0, s.pollPeriod cadence⟩ }
      else s)

/-- A poll that goes unanswered (R143). -/
def Link.unanswered (limit : Nat) (l : Link) : Link :=
  let missed := min (l.missed + 1) limit
  if missed = limit ∧ l.reachable then
    { reachable := false, missed := missed, poll := .none, seqRef := none }
  else { l with missed := missed, poll := .none }

/-- POLL_REPLY_TIMEOUT (R143). -/
def execPollReplyTimeout (c : Fin 8) (site : Fin 16) (s : State) :
    Host.Outcome State Fault Refusal :=
  .next (
    let l := s.link c site
    match l.poll, s.channelDef c with
    | .awaiting ends, some d =>
      if Time.reached s.now ends then
        let l1 := l.unanswered d.missedLimit
        let s1 := s.setLink c site l1
        if l1.reachable = l.reachable then s1 else s1.reachChanged c site
      else s
    | _, _ => s)

/-- LOSS_TIME_EXPIRY (R135). The quality window stands at the entry to DOWN and through it, and the report gives its bad
count: R132 does not list this entry among those that empty it, and does not say what it holds in DOWN (log 66: DESIGN
CHOICE). -/
def execLossTimeExpiry (c : Fin 8) (s : State) : Host.Outcome State Fault Refusal :=
  .next (
    let ch := s.channel c
    match s.channelDef c with
    | none => s
    | some d =>
      if ch.state.runsLoss && decide (counts d.lossTime < Time.age s.now ch.lastGood) then
        let s1 := s.setChannel c { ch with
          state := .down, queue := ch.queue.filter (fun f => !f.isTrip) }
        let s2 := (s1.send (.loss c .down)).clearLinks c
        (s2.noteChannel c ch.state .loss).followChannel c
      else s)

/-! ## Cadence (R142) -/

/-- The alert becomes true on a channel (R142). -/
def State.alertRises (s : State) (c : Nat) : State :=
  let ch := s.channel c
  match ch.cadence with
  | .brisk _ _ => s.setChannel c { ch with alert := true, cadence := .brisk none false }
  | .relaxed =>
    let brisk : Cadence := .brisk none false
    s.setChannel c { ch with
      alert := true
      cadence := brisk
      cycle := ch.cycle.map (fun _ => ⟨s.now, 0, s.pollPeriod brisk⟩) }

/-- The alert becomes false on a channel (R142). -/
def State.alertFalls (s : State) (c : Nat) : State :=
  let ch := s.channel c
  match ch.cadence with
  | .relaxed => s.setChannel c { ch with alert := false }
  | .brisk _ _ => s.setChannel c { ch with alert := false, cadence := .brisk (some s.now) false }

def alertFor (c : Nat) : Msg → Option Bool
  | .alert d v => if d = c then some v else none
  | _ => none

/-- CORRIDOR_ALERT_DELIVERY (R142). -/
def execCorridorAlertDelivery (c : Fin 8) (s : State) : Host.Outcome State Fault Refusal :=
  .next (match s.take (fun m => (alertFor c m).isSome) (alertFor c) with
    | none => s
    | some (v, s1) =>
      if v = (s1.channel c).alert then s1
      else if v then s1.alertRises c
      else s1.alertFalls c)

/-- SETTLE_TIME_EXPIRY (R142). -/
def execSettleTimeExpiry (c : Fin 8) (s : State) : Host.Outcome State Fault Refusal :=
  .next (
    let ch := s.channel c
    match ch.cadence with
    | .relaxed => s
    | .brisk none _ => s
    | .brisk (some start) _ =>
      if !ch.alert && Time.reached s.now (Time.after start (settleCounts s.banks.active.params)) then
        s.setChannel c { ch with cadence := .brisk none true }
      else s)

/-! ## Routes (R146) -/

/-- REVERT_DELAY_EXPIRY (R146). -/
def execRevertDelayExpiry (site : Fin 16) (s : State) : Host.Outcome State Fault Refusal :=
  .next (
    let x := s.site site
    match x.route, x.stableSince with
    | .alternate _, some since =>
      if revertCounts s.banks.active.params ≤ Time.age s.now since then s.judgeRoute site false
      else s
    | _, _ => s)

def liveOrderFor (site : Nat) : Msg → Option Bool
  | .liveOrder t created => if t = site then some created else none
  | _ => none

/-- LIVE_ORDER_NOTICE (R146): a decrease is followed by a judgement of the route (R145). -/
def execLiveOrderNotice (site : Fin 16) (s : State) : Host.Outcome State Fault Refusal :=
  .next (match s.take (fun m => (liveOrderFor site m).isSome) (liveOrderFor site) with
    | none => s
    | some (created, s1) =>
      let x := s1.site site
      if created then s1.setSite site { x with liveOrders := x.liveOrders + 1 }
      else (s1.setSite site { x with liveOrders := x.liveOrders - 1 }).judgeRoute site false)

end Sys2Proof.Machine
end

