-- ==== Sys2Proof/Machine/PointStore.lean ====
section
/-! DEFINITION. The Point Store (chapter 1): events with their notices and reports, samples of sites and
host, expiries, substitution and release. -/

namespace Sys2Proof.Machine

/-! ## Codes -/

def qualityCode : Quality → Nat
  | .good => 1
  | .limited => 2
  | .stale => 3
  | .failed => 4
  | .restoring => 5
  | .substituted => 6

/-- The used value word of an analog point's POINT_QUALITY report: 0 for a point under WORST, whatever its quality
(R18, R190). -/
def usedWord (d : AnalogDef) (p : Point Int) : Word :=
  match d.policy, usedAnalog d p with
  | .worst, _ => 0
  | _, .num v => wordSigned v
  | _, .worst _ _ => 0

/-! ## Users (R15) -/

def State.schemeUses (s : State) (a : Nat) : Bool :=
  s.banks.active.scheme.toList.any (fun x =>
    match x with
    | none => false
    | some d => d.inputs.any (fun i => i.point == a))

def State.actionUses (s : State) (a : Nat) : Bool :=
  s.banks.active.action.toList.any (fun x =>
    match x with
    | none => false
    | some d => decide (d.namedPoint = some a))

def State.contingencyUses (s : State) (p : Nat) : Bool :=
  s.banks.active.contingency.toList.any (fun x =>
    match x with
    | none => false
    | some d => d.terms.any (fun t => decide (t.check = some p)))

/-! ## Events (R16 to R18, R21) -/

/-- An analog point that an event has changed. -/
structure AnalogChange where
  number : Nat
  before : Point Int
  after : Point Int
  fields : AnalogDef
deriving DecidableEq, Repr

/-- A status point that an event has changed. -/
structure StatusChange where
  number : Nat
  before : Point StatusVal
  after : Point StatusVal
deriving DecidableEq, Repr

/-- The analog points that differ between the state and the points an event leaves. -/
def State.analogChanges (s : State) (new : PointStore) : List AnalogChange :=
  (List.range 64).filterMap (fun a =>
    match rec? s.points.analog a, rec? new.analog a, s.analogDef a with
    | some p, some q, some d => if p = q then none else some ⟨a, p, q, d⟩
    | _, _, _ => none)

def State.statusChanges (s : State) (new : PointStore) : List StatusChange :=
  (List.range 128).filterMap (fun a =>
    match rec? s.points.status a, rec? new.status a with
    | some p, some q => if p = q then none else some ⟨a, p, q⟩
    | _, _ => none)

/-- POINT_QUALITY report of an analog point (R18); none while its quality is unchanged. -/
def AnalogChange.report? (now : Time) (x : AnalogChange) : Option Report :=
  if x.before.quality = x.after.quality then none
  else some (mkReport .pointQuality false now x.number
    [wordPair (qualityCode x.before.quality) (qualityCode x.after.quality),
      usedWord x.fields x.after, wordOf (policyCode x.fields.policy)])

/-- POINT_QUALITY report of a status point (R18). -/
def StatusChange.report? (now : Time) (x : StatusChange) : Option Report :=
  if x.before.quality = x.after.quality then none
  else some (mkReport .pointQuality false now (64 + x.number)
    [wordPair (qualityCode x.before.quality) (qualityCode x.after.quality),
      wordOf (statusCode (usedStatus x.after)), 0])

/-- The fail policy WORST with lo and hi, which the notice of a point under it carries (R16). -/
def AnalogDef.worstLimits (d : AnalogDef) : Option (Int × Int) :=
  if d.policy = .worst then some (d.lo, d.hi) else none

/-- Change notice of a change of quality or used value (R16). -/
def AnalogChange.notice? (x : AnalogChange) : Option PointNotice :=
  if x.before.quality = x.after.quality ∧ usedAnalog x.fields x.before = usedAnalog x.fields x.after then
    none
  else some ⟨x.number, x.after.quality, usedAnalog x.fields x.after, x.fields.worstLimits⟩

/-- Value transition, then quality notice, of a status point (R17). -/
def StatusChange.messages (x : StatusChange) : List CheckMsg :=
  (if x.before.value = x.after.value then []
    else [.transition x.number x.before.value x.after.value x.before.quality]) ++
  (if x.before.quality = x.after.quality then []
    else [.quality x.number x.after.quality x.after.value (usedStatus x.after)])

/-- A batch is sent when it holds anything (R16). -/
def sendBatch {α : Type} (f : List α → Msg) (batch : List α) : List Msg :=
  if batch.isEmpty then [] else [f batch]

/-- One event leaves the points `new`: its reports are offered, its notices leave as one batch, and the
staged views follow (R16 to R18, R21). Reports and notices of several points stand analog before status, each by
ascending number (log 61: DESIGN CHOICE). -/
def State.pointEvent (s : State) (new : PointStore) : State :=
  let analog := s.analogChanges new
  let status := s.statusChanges new
  let reports := analog.filterMap (AnalogChange.report? s.now) ++
    status.filterMap (StatusChange.report? s.now)
  let notices := analog.filterMap AnalogChange.notice?
  let checks := (status.filter (fun x => s.contingencyUses x.number)).flatMap StatusChange.messages
  let msgs := sendBatch .schemeChange (notices.filter (fun n => s.schemeUses n.point)) ++
    sendBatch .actionChange (notices.filter (fun n => s.actionUses n.point)) ++
    sendBatch .checkPoint checks
  let s1 := reports.foldl State.report { s with points := new }
  (s1.sendAll msgs).refreshPreparation

/-- The points with one analog point replaced. -/
def PointStore.setAnalog (ps : PointStore) (a : Nat) (p : Point Int) : PointStore :=
  { ps with analog := put ps.analog a (some p) }

def PointStore.setStatus (ps : PointStore) (a : Nat) (p : Point StatusVal) : PointStore :=
  { ps with status := put ps.status a (some p) }

/-! ## Expiries (R7) -/

/-- The staleness expiry of an analog point, if it is due. -/
def State.staleAnalog (s : State) (a : Nat) : State :=
  match rec? s.points.analog a, s.analogDef a with
  | some p, some d =>
    if p.staleDue s.now d.staleness then s.pointEvent (s.points.setAnalog a p.goStale) else s
  | _, _ => s

def State.staleStatus (s : State) (a : Nat) : State :=
  match rec? s.points.status a, s.statusDef a with
  | some p, some d =>
    if p.staleDue s.now d.staleness then s.pointEvent (s.points.setStatus a p.goStale) else s
  | _, _ => s

/-- The failure-limit expiry of an analog point, if it is due. -/
def State.failAnalog (s : State) (a : Nat) : State :=
  match rec? s.points.analog a, s.analogDef a with
  | some p, some d =>
    if p.failDue s.now d.staleness then s.pointEvent (s.points.setAnalog a p.goFailed) else s
  | _, _ => s

def State.failStatus (s : State) (a : Nat) : State :=
  match rec? s.points.status a, s.statusDef a with
  | some p, some d =>
    if p.failDue s.now d.staleness then s.pointEvent (s.points.setStatus a p.goFailed) else s
  | _, _ => s

/-- STALENESS_EXPIRY (R7). An expiry due under the staged definition alone changes the staged view
(R21, log 37). -/
def execStalenessExpiry (p : Fin 192) (s : State) : Host.Outcome State Fault Refusal :=
  .next (if p.val < 64 then (s.staleAnalog p).refreshPreparation
    else (s.staleStatus (p - 64)).refreshPreparation)

/-- FAILURE_LIMIT_EXPIRY (R7). -/
def execFailureLimitExpiry (p : Fin 192) (s : State) : Host.Outcome State Fault Refusal :=
  .next (if p.val < 64 then (s.failAnalog p).refreshPreparation
    else (s.failStatus (p - 64)).refreshPreparation)

/-! ## Samples (R2 to R6, R8 to R10) -/

/-- Samples of one event, at most one for a point. -/
structure Samples where
  analog : List (Nat × Int)
  status : List (Nat × StatusVal)
deriving DecidableEq, Repr

/-- Every expiry due for a point that takes a sample is applied first (R5), analog points before status points
(log 61: DESIGN CHOICE). -/
def State.expireTargets (s : State) (x : Samples) : State :=
  let s1 := x.analog.foldl (fun s' t => (s'.staleAnalog t.1).failAnalog t.1) s
  x.status.foldl (fun s' t => (s'.staleStatus t.1).failStatus t.1) s1

/-- One analog sample through the plausibility clamp (R5). -/
def State.sampleAnalog (s : State) (ps : PointStore) (t : Nat × Int) : PointStore :=
  match rec? ps.analog t.1, s.analogDef t.1 with
  | some p, some d =>
    let c := clampSample d t.2
    ps.setAnalog t.1 (p.sample s.now d.restoreNeeded c.1 c.2 false)
  | _, _ => ps

def State.sampleStatus (s : State) (ps : PointStore) (t : Nat × StatusVal) : PointStore :=
  match rec? ps.status t.1, s.statusDef t.1 with
  | some p, some d =>
    ps.setStatus t.1 (p.sample s.now d.restoreNeeded t.2 false (decide (t.2 = .invalid)))
  | _, _ => ps

/-- Accepted samples are processed, and their notices leave as one batch (R2, R4, R16). -/
def State.takeSamples (s : State) (x : Samples) : State :=
  let s1 := s.expireTargets x
  s1.pointEvent (x.status.foldl s1.sampleStatus (x.analog.foldl s1.sampleAnalog s1.points))

/-- The last pair of a frame for a slot (R2). -/
def lastPair (pairs : List (Nat × Int)) (slot : Nat) : Option Int :=
  (pairs.reverse.find? (fun t => t.1 == slot)).map Prod.snd

/-- The slot of a point of this site, or none (R2). -/
def Source.slotAt (site : Nat) : Source → Option Nat
  | .slot t k => if t = site then some k else none
  | .loc => none

/-- The samples of a TELEMETRY frame (R2). -/
def State.telemetrySamples (s : State) (site : Nat) (pairs : List (Nat × Int)) : Samples where
  analog := (List.range 64).filterMap (fun a =>
    match s.analogDef a with
    | none => none
    | some d =>
      match d.source.slotAt site with
      | none => none
      | some k => (lastPair pairs k).map (fun v => (a, v)))
  status := []

/-- The samples of a STATUS_REPLY frame: any byte that is no code is INVALID (R2). -/
def State.statusSamples (s : State) (site : Nat) (slots : List Byte) : Samples where
  analog := []
  status := (List.range 128).filterMap (fun a =>
    match s.statusDef a with
    | none => none
    | some d =>
      match d.source.slotAt site with
      | none => none
      | some k => (slots[k]?).map (fun b => (a, (statusOf b.toNat).getD .invalid)))

def noSeq : SiteSeq := ⟨0, true, false⟩

/-- The sequence filter accepts a frame (R3). -/
def SiteSeq.accepts (f : SiteSeq) (n : Byte) : Bool :=
  f.reach && (f.resync || (decide (1 ≤ (n - f.last).toNat) && decide ((n - f.last).toNat ≤ 127)))

/-- A frame goes through the sequence filter; an accepted one is taken as a whole (R2, R3). -/
def State.filterFrame (s : State) (site : Nat) (n : Byte) (x : Samples) : State :=
  let f := item s.points.seq site noSeq
  if f.accepts n then
    ({ s with points := { s.points with
      seq := put s.points.seq site { f with last := n, resync := false } } }).takeSamples x
  else s

/-- SITE_SAMPLES_TAKEN (R2, R3). -/
def execSiteSamplesTaken (c : Fin 8) (s : State) : Host.Outcome State Fault Refusal :=
  .next (match s.takeFrame c .pointStore with
    | none => s
    | some (f, s1) =>
      let site := f.header.address
      match readSiteFrame f.header.kind (bytesToWords f.payload) with
      | some (.statusReply n slots) => s1.filterFrame site n (s1.statusSamples site slots)
      | some (.telemetry n pairs) => s1.filterFrame site n (s1.telemetrySamples site pairs)
      | _ => s1)

/-! ## Reachability (R3, R11) -/

/-- A point of a lost site: FAILED unless it is SUBSTITUTED (R11). -/
def Point.siteLost {V : Type} (p : Point V) : Point V :=
  if p.quality = .substituted ∨ p.quality = .failed then p else p.goFailed

/-- Every point of a site fails, as one event (R11). -/
def State.failSite (s : State) (site : Nat) : PointStore :=
  { s.points with
    analog := Vector.ofFn (fun (a : Fin 64) =>
      match rec? s.points.analog a, s.analogDef a with
      | some p, some d => if (d.source.slotAt site).isSome then some p.siteLost else some p
      | x, _ => x)
    status := Vector.ofFn (fun (a : Fin 128) =>
      match rec? s.points.status a, s.statusDef a with
      | some p, some d => if (d.source.slotAt site).isSome then some p.siteLost else some p
      | x, _ => x) }

def pointsReach? (site : Nat) : Msg → Option Bool
  | .pointsReach t reach => if t = site then some reach else none
  | _ => none

/-- POINTS_SITE_REACHABILITY (R3, R11). -/
def execPointsSiteReachability (site : Fin 16) (s : State) : Host.Outcome State Fault Refusal :=
  .next (match s.take (fun m => (pointsReach? site m).isSome) (pointsReach? site) with
    | none => s
    | some (reach, s1) =>
      let f := item s1.points.seq site noSeq
      let s2 := { s1 with points := { s1.points with
        seq := put s1.points.seq site { f with reach := reach, resync := f.resync || !reach } } }
      if reach then s2 else s2.pointEvent (s2.failSite site))

/-! ## POINT_PUT (R4, R180) -/

/-- The length of POINT_PUT: one word and two for each pair of its count (Table 11-8). -/
def putLength (ws : List Word) : Bool :=
  match ws with
  | [] => false
  | w :: rest => rest.length == 2 * w.toNat

/-- The pairs of a POINT_PUT: point index and value word. -/
def putPairs (ws : List Word) : List (Nat × Word) :=
  (List.range (wordAt ws 0).toNat).map (fun j => ((wordAt ws (1 + 2 * j)).toNat, wordAt ws (2 + 2 * j)))

/-- A LOCAL point of the active bank, by its POINT class index (R4). -/
def State.isLocal (s : State) (index : Nat) : Bool :=
  if index < 64 then
    match s.analogDef index with
    | some d => decide (d.source = .loc)
    | none => false
  else
    match s.statusDef (index - 64) with
    | some d => decide (d.source = .loc)
    | none => false

/-- POINT_PUT is refused (R4, R180). -/
def putRefusal (s : State) (ws : List Word) : Option Reason :=
  let n := (wordAt ws 0).toNat
  let pairs := putPairs ws
  if n = 0 ∨ 16 < n then some .outOfRange
  else if pairs.any (fun t => decide (191 < t.1)) then some .outOfRange
  else if pairs.any (fun t => !s.isLocal t.1) then some .noItem
  else if pairs.any (fun t => decide (64 ≤ t.1) && (statusOf t.2.toNat).isNone) then some .outOfRange
  else none

/-- The last value a request names for a point (R4). -/
def lastValue (pairs : List (Nat × Word)) (index : Nat) : Option Word :=
  (pairs.reverse.find? (fun t => t.1 == index)).map Prod.snd

/-- The samples of a POINT_PUT (R4). -/
def putSamples (pairs : List (Nat × Word)) : Samples where
  analog := (List.range 64).filterMap (fun a => (lastValue pairs a).map (fun w => (a, w.toInt)))
  status := (List.range 128).filterMap (fun a =>
    (lastValue pairs (64 + a)).map (fun w => (a, (statusOf w.toNat).getD .invalid)))

/-- Quality and recorded value of a point as reply words (R180). -/
def State.pointWords (s : State) (index : Nat) : List Word :=
  if index < 64 then
    match rec? s.points.analog index with
    | some p => [wordOf (qualityCode p.quality), wordSigned p.value]
    | none => []
  else
    match rec? s.points.status (index - 64) with
    | some p => [wordOf (qualityCode p.quality), wordOf (statusCode p.value)]
    | none => []

/-- POINT_PUT's owning rule (R4, R180). -/
def pointPutRule (ws : List Word) (s : State) : Answer :=
  match putRefusal s ws with
  | some reason => .refuse reason s
  | none =>
    let pairs := putPairs ws
    let s1 := s.takeSamples (putSamples pairs)
    .done (pairs.flatMap (fun t => wordOf t.1 :: s1.pointWords t.1)) s1

/-- POINT_PUT (R4). -/
def execPointPut (s : State) : Host.Outcome State Fault Refusal :=
  .next (s.carryOut 0x2B anyRequest putLength pointPutRule)

/-! ## Substitution and release (R12, R13, R180) -/

/-- Words of a used value: one, or lo and hi under WORST (R180). -/
def usedWords : UsedValue → List Word
  | .num v => [wordSigned v]
  | .worst lo hi => [wordSigned lo, wordSigned hi]

/-- The DONE reply of POINT_SUBST and POINT_RELEASE: quality and used value (R180). -/
def pointDone (index : Nat) (s : State) : Answer :=
  if index < 64 then
    match rec? s.points.analog index, s.analogDef index with
    | some p, some d => .done (wordOf (qualityCode p.quality) :: usedWords (usedAnalog d p)) s
    | _, _ => .done [] s
  else
    match rec? s.points.status (index - 64) with
    | some p => .done [wordOf (qualityCode p.quality), wordOf (statusCode (usedStatus p))] s
    | none => .done [] s

/-- POINT_SUBST's owning rule (R12, R180). A status value that is no code counts as out of range (log
31). -/
def pointSubstRule (ws : List Word) (s : State) : Answer :=
  let index := (wordAt ws 0).toNat
  let w := wordAt ws 1
  if 191 < index then .refuse .outOfRange s
  else if index < 64 then
    match rec? s.points.analog index, s.analogDef index with
    | some p, some d =>
      if w.toInt < d.lo ∨ d.hi < w.toInt then .refuse .outOfRange s
      else pointDone index (s.pointEvent (s.points.setAnalog index (p.substitute w.toInt)))
    | _, _ => .refuse .noItem s
  else
    match rec? s.points.status (index - 64), statusOf w.toNat with
    | none, _ => .refuse .noItem s
    | some p, some .opened =>
      pointDone index (s.pointEvent (s.points.setStatus (index - 64) (p.substitute .opened)))
    | some p, some .closed =>
      pointDone index (s.pointEvent (s.points.setStatus (index - 64) (p.substitute .closed)))
    | some _, _ => .refuse .outOfRange s

/-- POINT_SUBST (R12). -/
def execPointSubst (s : State) : Host.Outcome State Fault Refusal :=
  .next (s.carryOut 0x2C anyRequest (isLength 2) pointSubstRule)

/-- The source is a site that the Point Store holds as UNREACHABLE (R13). -/
def State.sourceLost (s : State) : Source → Bool
  | .slot site _ => !(item s.points.seq site noSeq).reach
  | .loc => false

/-- POINT_RELEASE's owning rule (R13, R180). -/
def pointReleaseRule (ws : List Word) (s : State) : Answer :=
  let index := (wordAt ws 0).toNat
  if 191 < index then .refuse .outOfRange s
  else if index < 64 then
    match rec? s.points.analog index, s.analogDef index with
    | some p, some d =>
      if p.quality ≠ .substituted then .refuse .badState s
      else
        pointDone index (s.pointEvent (s.points.setAnalog index
          (p.release s.now d.staleness (s.sourceLost d.source) false)))
    | _, _ => .refuse .noItem s
  else
    match rec? s.points.status (index - 64), s.statusDef (index - 64) with
    | some p, some d =>
      if p.quality ≠ .substituted then .refuse .badState s
      else
        pointDone index (s.pointEvent (s.points.setStatus (index - 64)
          (p.release s.now d.staleness (s.sourceLost d.source) (decide (p.value = .invalid)))))
    | _, _ => .refuse .noItem s

/-- POINT_RELEASE (R13). -/
def execPointRelease (s : State) : Host.Outcome State Fault Refusal :=
  .next (s.carryOut 0x2D anyRequest (isLength 1) pointReleaseRule)

end Sys2Proof.Machine
end

