-- ==== Sys2Proof/Machine/Schemes.lean ====
section
/-! DEFINITION. The Arming Evaluator's schemes (chapters 3 and 4): evaluation, judgement, dwells, freeze
and release, the start query, execution ends, host controls and the corridor alert. -/

namespace Sys2Proof.Machine

/-! ## Reports and notices (R58, R59, R71, R72) -/

def armCode : ArmState → Nat
  | .disarmed => 1
  | .arming => 2
  | .armed => 3
  | .disarming => 4
  | .executing => 5
  | .latched => 6

/-- Reported state (R59). -/
def Scheme.reported (x : Scheme) : Reported := if x.enable then .on x.arm else .off

def reportedCode : Reported → Nat
  | .off => 0
  | .on a => armCode a

def armCauseCode : ArmCause → Nat
  | .evaluation => 1
  | .dwell => 2
  | .executionStart => 3
  | .executionEnd => 4
  | .schemeSet => 5
  | .schemeReset => 6
  | .restart => 7
  | .commit => 8

/-- ARM_STATE report (R59): Q, requirement and degraded flag are 0 when the record is absent. -/
def State.reportArm (s : State) (i : Nat) (old : Reported) (x : Scheme) (cause : ArmCause) : State :=
  s.report (mkReport .armState (decide (x.mode = .test)) s.now i
    [wordPair (reportedCode old) (reportedCode x.reported),
      wordSigned ((x.record.map EvalRec.q).getD 0),
      wordOf ((x.record.map EvalRec.requirement).getD 0),
      wordPair (armCauseCode cause) (if (x.record.map EvalRec.degraded).getD false then 1 else 0)])

/-- A scheme counts towards the corridor alert (R71). -/
def ArmState.alerts : ArmState → Bool
  | .disarmed => false
  | .arming => true
  | .armed => true
  | .disarming => true
  | .executing => true
  | .latched => false

/-- The corridor alert condition (R71). -/
def State.alertCondition (s : State) : Bool :=
  s.evaluator.anyPending || s.evaluator.schemes.toList.any (fun x =>
    match x with
    | none => false
    | some y => y.enable && y.arm.alerts)

/-- The alert is recomputed; a change is delivered to every channel (R71). -/
def State.refreshAlert (s : State) : State :=
  let v := s.alertCondition
  if v = s.evaluator.alert then s
  else ({ s with evaluator := { s.evaluator with alert := v } }).sendAll
    ((List.range 8).map (fun c => .alert c v))

/-- The scheme-state notice of a scheme (R58). -/
def stateNoticeOf (i : Nat) (x : Scheme) : Msg := .schemeState i x.enable x.arm x.mode

/-- A scheme leaves EXECUTING, and no other is EXECUTING (R72). -/
def State.noteDeparture (s : State) (x y : Scheme) : State :=
  if x.arm = .executing ∧ y.arm ≠ .executing ∧ s.anyExecuting = false then s.send .quiescence else s

/-- A scheme's record becomes `y`, with its state time (Table 4-2). The state time stands where the step ends in the
arm state it began in, as at an engine restart from ARMING into a new ARMING (R73, log 52). -/
def Scheme.stamped (now : Time) (x y : Scheme) : Scheme :=
  if x.arm = y.arm ∧ x.enable = y.enable then y else { y with stateTime := now }

/-- A scheme goes from `x` to `y`: record, report, notice to the Engine, carry outcome, quiescence
notice (R58, R59, R72, R163). The alert is recomputed by `changeScheme`. -/
def State.writeScheme (s : State) (i : Nat) (x y : Scheme) (cause : ArmCause) : State :=
  let z := Scheme.stamped s.now x y
  let s1 := s.setScheme i z
  let s2 := if x.reported = z.reported then s1 else s1.reportArm i x.reported z cause
  let s3 := if x.arm = z.arm ∧ x.enable = z.enable ∧ x.mode = z.mode then s2
    else s2.send (stateNoticeOf i z)
  (s3.refreshCarry i).noteDeparture x z

def State.changeScheme (s : State) (i : Nat) (x y : Scheme) (cause : ArmCause) : State :=
  (s.writeScheme i x y cause).refreshAlert

/-! ## Evaluation and judgement (R40, R48, R55 to R58, R62) -/

/-- The rescan request of R48 and R58 is due: ARMING was entered, or the requirement changed and the
arm state calls for a selection. -/
def rescanDue (old : Option EvalRec) (new : EvalRec) (j : Judged) : Bool :=
  j.entered || (j.arm.isPlanned &&
    (match old with
      | none => false
      | some r => r.requirement != new.requirement))

/-- One evaluation of a scheme, judged from `base`, the record it is judged in; `x` is the scheme
before the step. At a release one rescan request follows whatever comes of it (R62). -/
def State.judgeFrom (s : State) (i : Nat) (d : SchemeDef) (x base : Scheme) (release : Bool)
    (cause : Bool → ArmCause) : State :=
  let r := evaluate d s.liveView s.now
  let j := judgeArm d s.now base.arm base.dwell r.q
  let y := { base with record := some r, arm := j.arm, dwell := j.dwell }
  let s1 := s.changeScheme i x y (cause j.expired)
  if release || rescanDue x.record r j then s1.send (.rescan i .evaluator) else s1

/-- Cause of a change made by a release judgement (R62). -/
def releaseCause (expired : Bool) : ArmCause := if expired then .dwell else .evaluation

/-- The conditions of R40 for an evaluation by a batch of change notices. The record is held from the first evidence on
(R49): from the moment the freeze request is sent (log 59: DEDUCED). -/
def State.takesBatch (s : State) (i : Nat) (x : Scheme) : Bool :=
  x.enable && !s.freezeBegun i && !decide (x.arm = .latched)

/-- A batch names one of the scheme's inputs (R40). -/
def SchemeDef.named (d : SchemeDef) (batch : List PointNotice) : Bool :=
  d.inputs.any (fun i => batch.any (fun n => n.point == i.point))

/-- A batch of change notices reaches one scheme (R40). -/
def State.batchScheme (batch : List PointNotice) (s : State) (i : Nat) : State :=
  match s.scheme? i, s.schemeDef i with
  | some x, some d =>
    if s.takesBatch i x && d.named batch then s.judgeFrom i d x x false (fun _ => .evaluation) else s
  | _, _ => s

def schemeChange? : Msg → Option (List PointNotice)
  | .schemeChange batch => some batch
  | _ => none

/-- SCHEME_CHANGE_NOTICES (R40): batches may be taken in any order, so `k` picks one. The schemes it reaches are
evaluated by ascending number (log 54: DESIGN CHOICE). -/
def execSchemeChangeNotices (k : Nat) (s : State) : Host.Outcome State Fault Refusal :=
  .next (match takeNth schemeChange? k s.inflight with
    | none => s
    | some (batch, rest) =>
      (List.range 16).foldl (State.batchScheme batch) { s with inflight := rest })

/-! ## Dwells (R57) -/

/-- A running dwell of a kind has reached its end. -/
def Scheme.dwellOver (now : Time) (k : DwellKind) (x : Scheme) : Bool :=
  match x.dwell with
  | some ⟨kind, .running ends⟩ => decide (kind = k) && Time.reached now ends
  | some ⟨_, .stopped _⟩ => false
  | none => false

/-- ARM_DWELL_EXPIRY (R57). -/
def execArmDwellExpiry (sch : Fin 16) (s : State) : Host.Outcome State Fault Refusal :=
  .next (match s.scheme? sch with
    | none => s
    | some x =>
      if x.arm = .arming ∧ x.dwellOver s.now .arm = true then
        s.changeScheme sch x { x with arm := .armed, dwell := none } .dwell
      else s)

/-- DISARM_DWELL_EXPIRY (R57). -/
def execDisarmDwellExpiry (sch : Fin 16) (s : State) : Host.Outcome State Fault Refusal :=
  .next (match s.scheme? sch with
    | none => s
    | some x =>
      if x.arm = .disarming ∧ x.dwellOver s.now .disarm = true then
        s.changeScheme sch x { x with arm := .disarmed, dwell := none } .dwell
      else s)

/-! ## Freeze and release (R61, R62) -/

/-- Messages about one scheme of the Detector and the Dispatcher, taken in the order sent (log 3): a
freeze is taken before the query of its detection, a release after the answer. -/
def schemeLane (i : Nat) : Msg → Bool
  | .freezeReq j => j == i
  | .freezeRel j => j == i
  | .handOff _ j _ _ => j == i
  | .schemeEnd j _ => j == i
  | _ => false

/-- A running dwell stops with its remaining time (R61). -/
def Dwell.stop (now : Time) (w : Dwell) : Dwell :=
  match w.time with
  | .running ends => ⟨w.kind, .stopped (Time.left now ends)⟩
  | .stopped n => ⟨w.kind, .stopped n⟩

/-- A freeze request reaches a scheme (R61). On a scheme that is OFF, LATCHED or EXECUTING it sets the
flag and changes nothing else: the Engine gets no freeze notice (log 58: DEDUCED). -/
def State.freeze (s : State) (i : Nat) (x : Scheme) : State :=
  if x.enable && !decide (x.arm = .latched) && !decide (x.arm = .executing) then
    (s.setScheme i { x with frozen := true, dwell := x.dwell.map (Dwell.stop s.now) }).send
      (.freezeNote i)
  else s.setScheme i { x with frozen := true }

def freezeReq? (i : Nat) : Msg → Option Unit
  | .freezeReq j => if j = i then some () else none
  | _ => none

/-- FREEZE_REQUEST (R61). -/
def execFreezeRequest (sch : Fin 16) (s : State) : Host.Outcome State Fault Refusal :=
  .next (match s.take (schemeLane sch) (freezeReq? sch) with
    | none => s
    | some (_, s1) =>
      match s1.scheme? sch with
      | none => s1
      | some x => s1.freeze sch x)

/-- A release is judged: EXECUTING, LATCHED and OFF schemes only pass the notice on (R62). -/
def Scheme.resumes (x : Scheme) : Bool :=
  x.enable && !decide (x.arm = .latched) && !decide (x.arm = .executing)

/-- A release reaches a scheme (R62). -/
def State.release (s : State) (i : Nat) (d : SchemeDef) (x : Scheme) : State :=
  let base := { x with frozen := false }
  let s1 := (s.setScheme i base).send (.freezeRelNote i)
  if x.resumes then s1.judgeFrom i d base base true releaseCause else s1

def freezeRel? (i : Nat) : Msg → Option Unit
  | .freezeRel j => if j = i then some () else none
  | _ => none

/-- FREEZE_RELEASE (R62). -/
def execFreezeRelease (sch : Fin 16) (s : State) : Host.Outcome State Fault Refusal :=
  .next (match s.take (schemeLane sch) (freezeRel? sch) with
    | none => s
    | some (_, s1) =>
      match s1.scheme? sch, s1.schemeDef sch with
      | some x, some d => s1.release sch d x
      | _, _ => s1)

/-! ## PENDING notice (R71) -/

def pendingNote? : Msg → Option Bool
  | .pendingNote any => some any
  | _ => none

/-- PENDING_NOTICE (R71). -/
def execPendingNotice (s : State) : Host.Outcome State Fault Refusal :=
  .next (match s.take (fun m => (pendingNote? m).isSome) pendingNote? with
    | none => s
    | some (any, s1) =>
      ({ s1 with evaluator := { s1.evaluator with anyPending := any } }).refreshAlert)

/-! ## Start query (R63, R64) -/

/-- Why a start query is answered NOT_STARTED (R63). -/
inductive NotStarted where
  | off
  | blocked
  | disarmed
  | arming
  | latched
deriving DecidableEq, Repr

/-- Code of a reason in DETECTED_NOT_ARMED (Table 11-7). -/
def notStartedCode : NotStarted → Nat
  | .off => 1
  | .blocked => 2
  | .disarmed => 3
  | .arming => 4
  | .latched => 5

/-- The answer to a start query: none is STARTED (R63). A scheme that is EXECUTING gets no query
(R33); its arm state stands with LATCHED here. -/
def Scheme.queryAnswer (x : Scheme) : Option NotStarted :=
  if !x.enable then some .off
  else if x.blocked then some .blocked
  else
    match x.arm with
    | .latched => some .latched
    | .disarmed => some .disarmed
    | .arming => some .arming
    | .armed => none
    | .disarming => none
    | .executing => some .latched

/-- Remaining time of a disarm dwell at the start of an execution (R64). -/
def Dwell.remaining (now : Time) (w : Dwell) : Nat :=
  match w.time with
  | .running ends => Time.left now ends
  | .stopped n => n

/-- The pre-execution state (R64). -/
def Scheme.preState (now : Time) (x : Scheme) : PreExec :=
  match x.arm with
  | .disarming => .disarming ((x.dwell.map (Dwell.remaining now)).getD 0)
  | _ => .armed

/-- A scheme that answers STARTED enters EXECUTING (R64). -/
def State.enterExecuting (s : State) (i : Nat) (x : Scheme) : State :=
  s.changeScheme i x
    { x with arm := .executing, preExec := some (x.preState s.now), dwell := none } .executionStart

/-! ## Execution ends (R65, R66) -/

def schemeEnd? (i : Nat) (m : Mode) : Msg → Option Unit
  | .schemeEnd j n => if j = i ∧ n = m then some () else none
  | _ => none

/-- SERVICE_EXECUTION_END (R65). -/
def execServiceExecutionEnd (sch : Fin 16) (s : State) : Host.Outcome State Fault Refusal :=
  .next (match s.take (schemeLane sch) (schemeEnd? sch .service) with
    | none => s
    | some (_, s1) =>
      match s1.scheme? sch with
      | none => s1
      | some x =>
        if x.arm = .executing then
          s1.changeScheme sch x { x with arm := .latched, preExec := none, dwell := none }
            .executionEnd
        else s1)

/-- The scheme as a TEST execution's end leaves it before the release judgement (R66). -/
def Scheme.restored (x : Scheme) : Scheme :=
  match x.preExec with
  | some (.disarming n) =>
    { x with arm := .disarming, dwell := some ⟨.disarm, .stopped n⟩, preExec := none, frozen := false }
  | some .armed => { x with arm := .armed, dwell := none, preExec := none, frozen := false }
  | none => { x with arm := .armed, dwell := none, preExec := none, frozen := false }

/-- TEST_EXECUTION_END (R62, R66). -/
def execTestExecutionEnd (sch : Fin 16) (s : State) : Host.Outcome State Fault Refusal :=
  .next (match s.take (schemeLane sch) (schemeEnd? sch .test) with
    | none => s
    | some (_, s1) =>
      match s1.scheme? sch, s1.schemeDef sch with
      | some x, some d =>
        if x.arm = .executing then
          (s1.send (.freezeRelNote sch)).judgeFrom sch d x x.restored true (fun _ => .executionEnd)
        else s1
      | _, _ => s1)

/-! ## Host controls (R54, R67 to R70) -/

/-- The DONE reply of SCHEME_SET: enable, blocked, mode, arm state (4.6). -/
def schemeDone (i : Nat) (s : State) : Answer :=
  match s.scheme? i with
  | none => .done [] s
  | some x => .done [if x.enable then 1 else 2, wordFlag x.blocked, wordOf (modeCode x.mode),
      wordOf (armCode x.arm)] s

/-- SCHEME_SET: number, definition, control code, then the control (R54, 4.6). -/
def schemeRule (control : Nat → SchemeDef → Scheme → State → Answer) (ws : List Word) (s : State) :
    Answer :=
  let w := wordAt ws 0
  let i := hi w
  if 16 ≤ i then .refuse .outOfRange s
  else
    match s.schemeDef i, s.scheme? i with
    | some d, some x => if lo w = 0 ∨ 6 < lo w then .refuse .outOfRange s else control i d x s
    | _, _ => .refuse .noItem s

/-- A SCHEME_SET request of one control. -/
def State.schemeSet (s : State) (code : Nat)
    (control : Nat → SchemeDef → Scheme → State → Answer) : State :=
  s.carryOut 0x27 (controlIs lo code 6) (isLength 1) (schemeRule control)

/-- ENABLE (R68). -/
def schemeEnable (i : Nat) (d : SchemeDef) (x : Scheme) (s : State) : Answer :=
  if x.isFrozen then .refuse .badState s
  else if x.enable then schemeDone i s
  else
    schemeDone i (s.judgeFrom i d x { x with enable := true, arm := .disarmed, dwell := none } false
      (fun _ => .schemeSet))

/-- DISABLE (R68). -/
def schemeDisable (i : Nat) (_ : SchemeDef) (x : Scheme) (s : State) : Answer :=
  if x.isFrozen then .refuse .badState s
  else if x.arm = .latched then .refuse .badState s
  else if !x.enable then schemeDone i s
  else
    schemeDone i (s.changeScheme i x
      { x with enable := false, arm := .disarmed, dwell := none, record := none } .schemeSet)

/-- BLOCK and UNBLOCK (R69): the blocked flag enters the carry outcome's inputs (R163). -/
def schemeBlock (v : Bool) (i : Nat) (_ : SchemeDef) (x : Scheme) (s : State) : Answer :=
  if x.blocked = v then schemeDone i s
  else schemeDone i ((s.setScheme i { x with blocked := v }).refreshCarry i)

/-- SERVICE and TEST (R70). -/
def schemeMode (m : Mode) (i : Nat) (_ : SchemeDef) (x : Scheme) (s : State) : Answer :=
  if x.isFrozen then .refuse .badState s
  else if x.mode = m then schemeDone i s
  else schemeDone i (s.changeScheme i x { x with mode := m } .schemeSet)

/-- SCHEME_SET_ENABLE (R68). -/
def execSchemeSetEnable (s : State) : Host.Outcome State Fault Refusal :=
  .next (s.schemeSet 1 schemeEnable)

/-- SCHEME_SET_DISABLE (R68). -/
def execSchemeSetDisable (s : State) : Host.Outcome State Fault Refusal :=
  .next (s.schemeSet 2 schemeDisable)

/-- SCHEME_SET_BLOCK (R69). -/
def execSchemeSetBlock (s : State) : Host.Outcome State Fault Refusal :=
  .next (s.schemeSet 3 (schemeBlock true))

/-- SCHEME_SET_UNBLOCK (R69). -/
def execSchemeSetUnblock (s : State) : Host.Outcome State Fault Refusal :=
  .next (s.schemeSet 4 (schemeBlock false))

/-- SCHEME_SET_SERVICE (R70). -/
def execSchemeSetService (s : State) : Host.Outcome State Fault Refusal :=
  .next (s.schemeSet 5 (schemeMode .service))

/-- SCHEME_SET_TEST (R70). -/
def execSchemeSetTest (s : State) : Host.Outcome State Fault Refusal :=
  .next (s.schemeSet 6 (schemeMode .test))

/-- The DONE reply of SCHEME_RESET: arm state, Q, requirement (R67). -/
def resetDone (i : Nat) (s : State) : Answer :=
  match s.scheme? i with
  | none => .done [] s
  | some x => .done [wordOf (armCode x.arm), wordSigned ((x.record.map EvalRec.q).getD 0),
      wordOf ((x.record.map EvalRec.requirement).getD 0)] s

/-- SCHEME_RESET's owning rule (R67). -/
def schemeResetRule (ws : List Word) (s : State) : Answer :=
  let i := (wordAt ws 0).toNat
  if 16 ≤ i then .refuse .outOfRange s
  else
    match s.schemeDef i, s.scheme? i with
    | some d, some x =>
      if x.frozen then .refuse .badState s
      else if x.arm ≠ .latched then .refuse .badState s
      else
        resetDone i (s.judgeFrom i d x { x with arm := .disarmed, dwell := none } false
          (fun _ => .schemeReset))
    | _, _ => .refuse .noItem s

/-- SCHEME_RESET (R67). -/
def execSchemeReset (s : State) : Host.Outcome State Fault Refusal :=
  .next (s.carryOut 0x28 anyRequest (isLength 1) schemeResetRule)

end Sys2Proof.Machine
end

