-- ==== Sys2Proof/Machine/Detector.lean ====
section
/-! DEFINITION. The Contingency Detector (chapter 2): evidence, terms, first evidence, detection, window
expiry, answers and execution ends, clearing. -/

namespace Sys2Proof.Machine

/-- A CLEAR contingency of `n` terms (R30, R34, R38). -/
def Contingency.cleared (n : Nat) : Contingency where
  state := .clear
  firstEvidence := none
  windowEnd := none
  terms := List.replicate n TermRec.empty
  detectTime := none
  degraded := false
  liveCount := 0
  clearReady := false
  requests := []
  awaiting := []

/-- The triggered schemes of a contingency (R22). -/
def State.triggered (s : State) (k : Nat) : List Nat :=
  (List.range 16).filter (fun i =>
    match s.schemeDef i with
    | none => false
    | some d => d.trigger == k)

/-! ## Notices (R28, R29) -/

/-- The Evaluator is told whether any contingency is now PENDING (R29). -/
def State.notePending (s : State) : State := s.send (.pendingNote s.anyPending)

/-- A quiescence notice, when no contingency is PENDING and no hand-off awaits its answer (R29). -/
def State.noteQuiet (s : State) : State :=
  if s.anyPending || s.anyAwaiting then s else s.send .quiescence

/-- Releases of the freeze requests held for schemes (R28). -/
def releases (schemes : List Nat) : List Msg := schemes.map .freezeRel

/-! ## Evidence (R23 to R25) -/

/-- Evidence of one event for one contingency: the terms with indication evidence, and those with check
evidence. -/
structure Evidence where
  indication : List Nat
  check : List Nat
deriving DecidableEq, Repr

def Evidence.isEmpty (e : Evidence) : Bool := e.indication.isEmpty && e.check.isEmpty

/-- The numbers of the terms that satisfy `p`. -/
def termsWhere (d : ContingencyDef) (p : TermDef → Bool) : List Nat :=
  (List.range d.terms.length).filter (fun j =>
    match d.terms[j]? with
    | none => false
    | some t => p t)

/-- Evidence of an INDICATION frame (R23). -/
def indicationEvidence (site : Nat) (codes : List Nat) (d : ContingencyDef) : Evidence where
  indication := termsWhere d (fun t =>
    match t.indication with
    | none => false
    | some (i, code) => i == site && codes.contains code)
  check := []

/-- A value transition is check evidence for a term (R24). -/
def isEvidence (t : TermDef) : CheckMsg → Bool
  | .transition p _ new tag =>
    decide (t.check = some p) && decide (new = t.outage) && decide (tag = .good)
  | .quality _ _ _ _ => false

/-- Evidence of a batch of the Point Store's messages (R24). -/
def checkEvidence (batch : List CheckMsg) (d : ContingencyDef) : Evidence where
  indication := []
  check := termsWhere d (fun t => batch.any (isEvidence t))

/-- A flag that is set keeps its time (R25). -/
def setSeen (now : Time) (hit : Bool) (x : Option Time) : Option Time :=
  match x with
  | some t => some t
  | none => if hit then some now else none

/-- Evidence recorded in a term (R25). -/
def TermRec.see (now : Time) (e : Evidence) (j : Nat) (r : TermRec) : TermRec :=
  { r with
    indicationSeen := setSeen now (e.indication.contains j) r.indicationSeen
    checkSeen := setSeen now (e.check.contains j) r.checkSeen }

/-- The evidence that has an effect on a contingency as it stands before the event (R25): in PENDING, evidence for
a flag that is already set has none. -/
def Evidence.news (e : Evidence) (x : Contingency) : Evidence :=
  let new (flag : TermRec → Option Time) (j : Nat) : Bool :=
    !decide (x.state = .pending) || ((x.terms[j]?.bind flag).isNone)
  ⟨e.indication.filter (new TermRec.indicationSeen), e.check.filter (new TermRec.checkSeen)⟩

/-- Evidence recorded in every term (R25). -/
def recordEvidence (now : Time) (e : Evidence) (rs : List TermRec) : List TermRec :=
  (rs.zipIdx).map (fun p => p.1.see now e p.2)

/-- First evidence: the contingency enters PENDING, and the freeze requests and notices are sent (R28 to
R30). -/
def State.enterPending (s : State) (k : Nat) (d : ContingencyDef) (x : Contingency) : State :=
  let schemes := s.triggered k
  let y := { x with
    state := .pending
    firstEvidence := some s.now
    windowEnd := some (Time.after s.now (counts d.window))
    terms := List.replicate d.terms.length TermRec.empty
    requests := schemes }
  let s1 := (s.setContingency k y).sendAll (schemes.map .freezeReq)
  s1.notePending.send (.firstEvidence k)

/-- Evidence of one event is recorded for one contingency (R25). -/
def State.applyEvidence (f : ContingencyDef → Evidence) (s : State) (k : Nat) : State :=
  match s.contingencyDef k, s.contingency? k with
  | some d, some x =>
    let e := f d
    if e.isEmpty then s
    else
      match x.state with
      | .held => s
      | .pending => s.setContingency k { x with terms := recordEvidence s.now e x.terms }
      | .clear =>
        let s1 := s.enterPending k d x
        match s1.contingency? k with
        | none => s1
        | some y => s1.setContingency k { y with terms := recordEvidence s.now e y.terms }
  | _, _ => s

/-! ## Satisfaction (R26, R27) -/

/-- Quality the Point Store holds for a status point (R27). -/
def State.statusQuality (s : State) (p : Nat) : Quality :=
  match rec? s.points.status p with
  | none => .failed
  | some x => x.quality

/-- The quality notices of a batch show the point not GOOD (R27). -/
def noticeNotGood (p : Nat) : CheckMsg → Bool
  | .transition _ _ _ _ => false
  | .quality q quality _ _ => q == p && !decide (quality = .good)

/-- The check point is not GOOD at a moment of judgement of this event (R27): as the Point Store holds it
when the indication is taken now, or as a quality notice of the event gives it. -/
def State.doubted (s : State) (batch : List CheckMsg) (r : TermRec) (fresh : Bool) (p : Nat) : Bool :=
  r.indicationSeen.isSome &&
    ((fresh && !decide (s.statusQuality p = .good)) || batch.any (noticeNotGood p))

/-- A term that is not yet satisfied is judged (R26, R27). `fresh` says that this event gave it
indication evidence that has an effect. -/
def State.judgeTerm (s : State) (mode : ConfirmMode) (batch : List CheckMsg) (fresh : Bool) (t : TermDef)
    (r : TermRec) : TermRec :=
  if r.satisfied then r
  else
    match mode with
    | .any => { r with satisfied := r.indicationSeen.isSome || r.checkSeen.isSome }
    | .both =>
      match t.indication, t.check with
      | some _, some p =>
        if r.indicationSeen.isSome && r.checkSeen.isSome then { r with satisfied := true }
        else if s.doubted batch r fresh p then { r with satisfied := true, degraded := true }
        else r
      | some _, none => { r with satisfied := r.indicationSeen.isSome }
      | none, _ => { r with satisfied := r.checkSeen.isSome }

/-- Every term of a contingency is judged. -/
def State.judgeTerms (s : State) (d : ContingencyDef) (batch : List CheckMsg) (e : Evidence)
    (rs : List TermRec) : List TermRec :=
  (rs.zipIdx).map (fun p =>
    match d.terms[p.2]? with
    | none => p.1
    | some t => s.judgeTerm d.mode batch (e.indication.contains p.2) t p.1)

/-! ## Detection (R32) -/

/-- The terms that satisfy `f`, as a bit set: a contingency has 1 to 4 terms (Table 2-1, Table 11-7). -/
def termBits (f : TermRec → Bool) (rs : List TermRec) : BitVec 4 :=
  let bit (j : Nat) : BitVec 1 := BitVec.ofBool ((rs[j]?.map f).getD false)
  bit 3 ++ bit 2 ++ bit 1 ++ bit 0

/-- CONTINGENCY_DETECTED report (R36, Table 11-7). -/
def State.detectedReport (s : State) (k : Nat) (x : Contingency) : Report :=
  mkReport .contingencyDetected false s.now k
    [wordOf (Time.age s.now (x.firstEvidence.getD s.now)), wordSet (s.triggered k),
      BitVec.ofBool x.degraded ++ (0 : BitVec 11) ++ termBits TermRec.degraded x.terms]

/-- Detection (R32): HELD, the notices of R29, the report, then one hand-off for each triggered
scheme. -/
def State.detect (s : State) (k : Nat) (x : Contingency) : State :=
  let schemes := s.triggered k
  let y := { x with
    state := .held
    windowEnd := none
    detectTime := some s.now
    degraded := x.terms.any TermRec.degraded
    liveCount := 0
    clearReady := false
    awaiting := schemes }
  let s1 := ((s.setContingency k y).notePending).noteQuiet
  (s1.report (s1.detectedReport k y)).sendAll
    (schemes.map (fun i => .handOff k i s.now y.degraded))

/-- The evidence of an event that has an effect on contingency `k` of the state before the event (R25). -/
def State.newsOf (s : State) (f : ContingencyDef → Evidence) (k : Nat) (d : ContingencyDef) : Evidence :=
  match s.contingency? k with
  | none => f d
  | some x => (f d).news x

/-- A PENDING contingency is judged after an event: its terms, then detection (R25, R32). `before` is the part
before the event. -/
def State.judgePending (before : State) (batch : List CheckMsg) (f : ContingencyDef → Evidence) (s : State)
    (k : Nat) : State :=
  match s.contingencyDef k, s.contingency? k with
  | some d, some x =>
    if x.state = .pending then
      let y := { x with terms := s.judgeTerms d batch (before.newsOf f k d) x.terms }
      let s1 := s.setContingency k y
      if y.terms.all TermRec.satisfied then s1.detect k y else s1
    else s
  | _, _ => s

/-- One event of evidence: recorded for every contingency it reaches, which are then judged (R25), by ascending
number (log 65: DESIGN CHOICE). -/
def State.evidenceEvent (s : State) (batch : List CheckMsg) (f : ContingencyDef → Evidence) : State :=
  let s1 := (List.range 32).foldl (State.applyEvidence f) s
  (List.range 32).foldl (State.judgePending s batch f) s1

/-- INDICATION_TAKEN (R23). -/
def execIndicationTaken (c : Fin 8) (s : State) : Host.Outcome State Fault Refusal :=
  .next (match s.takeFrame c .detector with
    | none => s
    | some (f, s1) =>
      match readSiteFrame f.header.kind (bytesToWords f.payload) with
      | some (.indication codes) =>
        s1.evidenceEvent [] (indicationEvidence f.header.address codes)
      | _ => s1)

/-! ## Clearing (R33, R34) -/

/-- A HELD contingency becomes CLEAR; hand-offs that await their answer, freeze requests and the count
stand (R34). -/
def Contingency.clear (x : Contingency) : Contingency :=
  { x with
    state := .clear
    firstEvidence := none
    windowEnd := none
    terms := List.replicate x.terms.length TermRec.empty
    detectTime := none
    degraded := false
    clearReady := false }

/-- The check point is GOOD and its recorded value is not the outage state (R34). -/
def State.termCleared (s : State) (t : TermDef) : Bool :=
  match t.check with
  | none => false
  | some p =>
    match rec? s.points.status p with
    | none => false
    | some x => decide (x.quality = .good) && !decide (x.value = t.outage)

/-- The clearing condition (R34). -/
def State.clearingHolds (s : State) (d : ContingencyDef) : Bool := d.terms.all s.termCleared

/-- The message is about one of the contingency's check points (R34). -/
def namesCheck (d : ContingencyDef) (m : CheckMsg) : Bool :=
  let p := match m with
    | .transition p _ _ _ => p
    | .quality p _ _ _ => p
  d.terms.any (fun t => decide (t.check = some p))

/-- The clearing judgement of a HELD contingency whose every term has a check point (R34). -/
def State.judgeClearing (batch : List CheckMsg) (s : State) (k : Nat) : State :=
  match s.contingencyDef k, s.contingency? k with
  | some d, some x =>
    if decide (x.state = .held) && d.terms.all (fun t => t.check.isSome) && batch.any (namesCheck d) then
      if s.clearingHolds d then
        if x.liveCount = 0 then s.setContingency k x.clear
        else s.setContingency k { x with clearReady := true }
      else s.setContingency k { x with clearReady := false }
    else s
  | _, _ => s

def checkPoint? : Msg → Option (List CheckMsg)
  | .checkPoint batch => some batch
  | _ => none

/-- CHECK_POINT_MESSAGES (R24 to R27, R34). Contingencies that are HELD when the batch is taken are judged
for clearing; the others take it as evidence and as quality notices. Clearing stands first, and each goes by ascending
number (log 65: DESIGN CHOICE). -/
def execCheckPointMessages (s : State) : Host.Outcome State Fault Refusal :=
  .next (match s.take (fun m => (checkPoint? m).isSome) checkPoint? with
    | none => s
    | some (batch, s1) =>
      let s2 := (List.range 32).foldl (State.judgeClearing batch) s1
      let held := (List.range 32).filter (fun k =>
        match s1.contingency? k with
        | none => false
        | some x => decide (x.state = .held))
      let others := (List.range 32).filter (fun k => !held.contains k)
      let s3 := others.foldl (State.applyEvidence (checkEvidence batch)) s2
      others.foldl (State.judgePending s1 batch (checkEvidence batch)) s3)

/-! ## Window expiry (R31) -/

/-- CONTINGENCY_UNCONFIRMED report (R36, Table 11-7). -/
def State.unconfirmedReport (s : State) (k : Nat) (x : Contingency) : Report :=
  mkReport .contingencyUnconfirmed false s.now k
    (wordsTime (x.firstEvidence.getD s.now) ++
      [(0 : BitVec 4) ++ termBits TermRec.satisfied x.terms ++
        termBits (fun r => r.indicationSeen.isSome) x.terms ++ termBits (fun r => r.checkSeen.isSome) x.terms])

/-- Window expiry (R28, R29, R31). -/
def State.expireWindow (s : State) (k : Nat) (x : Contingency) : State :=
  let y := { x.clear with requests := [] }
  let s1 := (s.setContingency k y).sendAll (releases x.requests)
  (s1.notePending.noteQuiet).report (s.unconfirmedReport k x)

/-- WINDOW_EXPIRY (R31), from the moment corridor time reaches the window end (log 55: DEDUCED) with a term
unsatisfied. -/
def execWindowExpiry (k : Fin 32) (s : State) : Host.Outcome State Fault Refusal :=
  .next (match s.contingency? k with
    | none => s
    | some x =>
      match x.windowEnd with
      | none => s
      | some ends =>
        if x.state = .pending ∧ Time.reached s.now ends = true then s.expireWindow k x else s)

/-! ## Answers and execution ends (R32, R33) -/

/-- The Dispatcher's messages to the Detector about one scheme, in the order sent (log 3). -/
def detectorLane (sch : Nat) : Msg → Bool
  | .handOffAnswer _ i _ => i == sch
  | .execEnd _ i => i == sch
  | _ => false

def answer? (sch : Nat) : Msg → Option (Nat × Bool)
  | .handOffAnswer k i started => if i = sch then some (k, started) else none
  | _ => none

/-- An answer to a hand-off: the live count, the freeze request and its release, and after the last
answer the quiescence notice (R28, R29, R32). -/
def State.takeAnswer (s : State) (k sch : Nat) (started : Bool) : State :=
  match s.contingency? k with
  | none => s
  | some x =>
    let y := { x with
      awaiting := x.awaiting.erase sch
      requests := x.requests.erase sch
      liveCount := if started then x.liveCount + 1 else x.liveCount }
    let s1 := (s.setContingency k y).send (.freezeRel sch)
    if y.awaiting.isEmpty then s1.noteQuiet else s1

/-- HAND_OFF_ANSWER (R32). -/
def execHandOffAnswer (sch : Fin 16) (s : State) : Host.Outcome State Fault Refusal :=
  .next (match s.take (detectorLane sch) (answer? sch) with
    | none => s
    | some ((k, started), s1) => s1.takeAnswer k sch started)

def execEnd? (sch : Nat) : Msg → Option Nat
  | .execEnd k i => if i = sch then some k else none
  | _ => none

/-- An execution-end notice to the Evaluator for the scheme has not been taken yet (R121). -/
def isSchemeEnd (sch : Nat) : Msg → Bool
  | .schemeEnd i _ => i == sch
  | _ => false

/-- A contingency whose execution has ended: its live execution count goes down, and a HELD one that is ready to clear
becomes CLEAR as the count comes to 0 (R33, R34). -/
def Contingency.executionEnded (x : Contingency) : Contingency :=
  let n := x.liveCount - 1
  if n = 0 ∧ x.state = .held ∧ x.clearReady = true then { x.clear with liveCount := 0 }
  else { x with liveCount := n }

/-- An execution of contingency `k` has ended (R33, R34). -/
def State.lowerCount (s : State) (k : Nat) : State :=
  match s.contingency? k with
  | none => s
  | some x => s.setContingency k x.executionEnded

/-- EXECUTION_END_NOTICE (R33, R34), after the Evaluator has taken its own (R121). -/
def execExecutionEndNotice (sch : Fin 16) (s : State) : Host.Outcome State Fault Refusal :=
  .next (if s.inFlight (isSchemeEnd sch) then s
    else
      match s.take (detectorLane sch) (execEnd? sch) with
      | none => s
      | some (k, s1) => s1.lowerCount k)

/-! ## CONTINGENCY_RESET (R35) -/

def contingencyStateCode : ContingencyState → Nat
  | .clear => 1
  | .pending => 2
  | .held => 3

/-- The DONE reply: the state before and after (R35). -/
def contingencyDone (k : Nat) (before : ContingencyState) (s : State) : Answer :=
  .done [wordOf (contingencyStateCode before),
    wordOf (contingencyStateCode (((s.contingency? k).map Contingency.state).getD .clear))] s

/-- CONTINGENCY_RESET's owning rule (R35). -/
def contingencyResetRule (ws : List Word) (s : State) : Answer :=
  let k := (wordAt ws 0).toNat
  if 32 ≤ k then .refuse .outOfRange s
  else
    match s.contingency? k with
    | none => .refuse .noItem s
    | some x =>
      match x.state with
      | .pending => .refuse .badState s
      | .held =>
        if x.liveCount = 0 then contingencyDone k .held (s.setContingency k x.clear)
        else .refuse .badState s
      | .clear => contingencyDone k .clear s

/-- CONTINGENCY_RESET (R35). -/
def execContingencyReset (s : State) : Host.Outcome State Fault Refusal :=
  .next (s.carryOut 0x29 anyRequest (isLength 1) contingencyResetRule)

end Sys2Proof.Machine
end

