-- ==== Sys2Proof/Machine/EngineCommands.lean ====
section
/-! DEFINITION. Commands of the Selection Engine (chapter 5): notices and requests it takes, scan steps,
and the confirmation of site arm images. -/

namespace Sys2Proof.Machine

/-! ## Notices of the Arming Evaluator (R89, R92) -/

/-- Messages of the Evaluator to the Engine about one scheme, taken in the order sent (R58, R62). -/
def evaluatorLane (sch : Nat) : Msg → Bool
  | .schemeState i _ _ _ => i == sch
  | .freezeNote i => i == sch
  | .freezeRelNote i => i == sch
  | .rescan i src => i == sch && decide (src = .evaluator)
  | _ => false

def State.view (s : State) (sch : Nat) : SchemeView := item s.engine.known sch SchemeView.off

def State.setView (s : State) (sch : Nat) (v : SchemeView) : State :=
  s.setEngine { s.engine with known := put s.engine.known sch v }

def State.setHeld (s : State) (sch : Nat) (held : Bool) : State :=
  s.setEngine { s.engine with held := put s.engine.held sch held }

/-- A notice leaves the scheme DISARMED, OFF or LATCHED (R92). -/
def endsRoutineWork (enable : Bool) (arm : ArmState) : Bool :=
  !enable || decide (arm = .disarmed) || decide (arm = .latched)

/-- The scheme's routine work is dropped, and the Engine goes on if that ended its scan (R90, R92). -/
def State.dropRoutine (s : State) (sch : Nat) : State :=
  (s.setEngine (s.engine.dropWork .routine sch)).startNext

def stateNotice (sch : Nat) : Msg → Option (Bool × ArmState × Mode)
  | .schemeState i enable arm mode => if i = sch then some (enable, arm, mode) else none
  | _ => none

/-- SCHEME_STATE_NOTICE (R58, R92, R96). -/
def execSchemeStateNotice (sch : Fin 16) (s : State) : Host.Outcome State Fault Refusal :=
  .next (match s.take (evaluatorLane sch) (stateNotice sch) with
    | none => s
    | some ((enable, arm, mode), s1) =>
      let s2 := s1.setView sch { s1.view sch with enable := enable, arm := arm, mode := mode }
      let s3 := if endsRoutineWork enable arm then s2.dropRoutine sch else s2
      s3.refreshImages)

def freezeNotice? (sch : Nat) : Msg → Option Unit
  | .freezeNote i => if i = sch then some () else none
  | _ => none

/-- FREEZE_NOTICE (R61, R92). -/
def execFreezeNotice (sch : Fin 16) (s : State) : Host.Outcome State Fault Refusal :=
  .next (match s.take (evaluatorLane sch) (freezeNotice? sch) with
    | none => s
    | some (_, s1) =>
      let s2 := s1.setView sch { s1.view sch with frozen := true }
      if s2.engine.hasWork .routine sch then (s2.setHeld sch true).dropRoutine sch else s2)

def releaseNotice? (sch : Nat) : Msg → Option Unit
  | .freezeRelNote i => if i = sch then some () else none
  | _ => none

/-- FREEZE_RELEASE_NOTICE (R62, R92). -/
def execFreezeReleaseNotice (sch : Fin 16) (s : State) : Host.Outcome State Fault Refusal :=
  .next (match s.take (evaluatorLane sch) (releaseNotice? sch) with
    | none => s
    | some (_, s1) => (s1.setHeld sch false).setView sch { s1.view sch with frozen := false })

/-- A rescan request is taken for a scheme (R89). -/
def State.takeRescan (s : State) (sch : Nat) : State :=
  let v := s.view sch
  if v.frozen || decide (v.arm = .executing) then s.setHeld sch true
  else if !v.enable || !v.arm.isPlanned then s
  else s.queueScan .routine sch

def rescan? (sch : Nat) (src : RescanSource) : Msg → Option Unit
  | .rescan i x => if i = sch ∧ x = src then some () else none
  | _ => none

/-- The lane a rescan request stands in: the Evaluator's notices of the scheme, or the Pool's requests
(log 3). -/
def rescanLane (sch : Nat) (src : RescanSource) (m : Msg) : Bool :=
  match src with
  | .evaluator => evaluatorLane sch m
  | .pool => (rescan? sch .pool m).isSome

/-- RESCAN_REQUEST (R89). -/
def execRescanRequest (sch : Fin 16) (src : RescanSource) (s : State) :
    Host.Outcome State Fault Refusal :=
  .next (match s.take (rescanLane sch src) (rescan? sch src) with
    | none => s
    | some (_, s1) => s1.takeRescan sch)

/-! ## Scan steps (R86 to R88, R93, R95) -/

/-- One step of a running routine or shadow scan. -/
def State.planStep (s : State) (p : PlanScan) : State :=
  match s.advanceScan p with
  | (q, none) => s.setEngine { s.engine with running := some (.plan q) }
  | (q, some t) => s.finishPlan q t

/-- ROUTINE_SCAN_STEP (R86 to R88). A published selection does not change from the first evidence on (R64, R92):
the scan of a scheme whose freeze has begun waits for the freeze notice, which abandons it (log 49). -/
def execRoutineScanStep (s : State) : Host.Outcome State Fault Refusal :=
  .next (match s.engine.running with
    | some (.plan p) => if decide (p.kind = .routine) && !s.freezeBegun p.scheme then s.planStep p else s
    | some (.cover _) => s
    | none => s)

/-- SHADOW_SCAN_STEP (R95). -/
def execShadowScanStep (s : State) : Host.Outcome State Fault Refusal :=
  .next (match s.engine.running with
    | some (.plan p) => if p.kind = .shadow then s.planStep p else s
    | some (.cover _) => s
    | none => s)

def requeueFor (sch : Nat) : Msg → Option Unit
  | .shadowRequeue i => if i = sch then some () else none
  | _ => none

/-- SHADOW_REQUEUE (R95). -/
def execShadowRequeue (sch : Fin 16) (s : State) : Host.Outcome State Fault Refusal :=
  .next (match s.take (fun m => (requeueFor sch m).isSome) (requeueFor sch) with
    | none => s
    | some (_, s1) =>
      if s1.banks.switch = .preparing then (s1.queueScan .shadow sch).noteShadow else s1)

/-! ## Cover scans (R89 to R94) -/

/-- Cover requests and cancels of one execution, taken in the order sent (log 3). -/
def coverLane (sch : Nat) : Msg → Bool
  | .coverReq i _ => i == sch
  | .coverCancel i => i == sch
  | _ => false

def coverReq? (sch : Nat) : Msg → Option Nat
  | .coverReq i deficit => if i = sch then some deficit else none
  | _ => none

/-- A running routine or shadow scan is suspended (R91). -/
def Engine.suspend (e : Engine) : Engine :=
  match e.running with
  | some (.plan p) => { e with running := none, suspended := some ⟨p, false⟩ }
  | some (.cover _) => e
  | none => e

/-- COVER_REQUEST (R89, R91). -/
def execCoverRequest (sch : Fin 16) (s : State) : Host.Outcome State Fault Refusal :=
  .next (match s.take (coverLane sch) (coverReq? sch) with
    | none => s
    | some (deficit, s1) =>
      let e := s1.engine.suspend
      (s1.setEngine { e with cover := e.cover ++ [⟨sch, deficit⟩] }).startNext)

/-- COVER_SCAN_STEP (R93). -/
def execCoverScanStep (s : State) : Host.Outcome State Fault Refusal :=
  .next (match s.engine.running with
    | some (.cover c) =>
      let d := if s.coverEnded c then c else s.examineCover c
      if s.coverEnded d then s.finishCover d
      else s.setEngine { s.engine with running := some (.cover d) }
    | some (.plan _) => s
    | none => s)

def coverCancel? (sch : Nat) : Msg → Option Unit
  | .coverCancel i => if i = sch then some () else none
  | _ => none

/-- The cover work of an execution is removed from the queue or abandoned (R94). -/
def Engine.dropCover (e : Engine) (sch : Nat) : Engine :=
  { e with
    cover := e.cover.filter (fun r => r.scheme != sch)
    running := match e.running with
      | some (.cover c) => if c.scheme = sch then none else e.running
      | some (.plan _) => e.running
      | none => none }

/-- COVER_CANCEL (R94). -/
def execCoverCancel (sch : Fin 16) (s : State) : Host.Outcome State Fault Refusal :=
  .next (match s.take (coverLane sch) (coverCancel? sch) with
    | none => s
    | some (_, s1) => (s1.setEngine (s1.engine.dropCover sch)).startNext)

/-! ## Confirmation of images (R97) -/

/-- ARM_ACK_TAKEN (R97): the current version confirms the image of a defined site. -/
def execArmAckTaken (c : Fin 8) (s : State) : Host.Outcome State Fault Refusal :=
  .next (match s.takeFrame c .engine with
    | none => s
    | some (f, s1) =>
      let site := f.header.address
      match readSiteFrame f.header.kind (bytesToWords f.payload) with
      | some (.armAck version) =>
        if version = (s1.image site).version ∧ (s1.siteDef site).isSome then
          s1.setImage site { s1.image site with conf := .confirmed }
        else s1
      | _ => s1)

/-- ARM_IMAGE_REPLY_TIMEOUT (R97). -/
def execArmImageReplyTimeout (site : Fin 16) (s : State) : Host.Outcome State Fault Refusal :=
  .next (match (s.image site).conf with
    | .awaiting n (some ends) =>
      if Time.reached s.now ends then
        if n < Config.imageSends then s.sendImage site (n + 1)
        else (s.setImage site { s.image site with conf := .unconfirmed }).reportImage site 1
      else s
    | .awaiting _ none => s
    | .confirmed => s
    | .unconfirmed => s)

end Sys2Proof.Machine
end

