-- ==== Sys2Proof/Machine/Pool.lean ====
section
/-! DEFINITION. The Action Pool (chapter 5): its events with their rescan requests, commits and order
outcomes, and its commands. -/

namespace Sys2Proof.Machine

/-! ## Events (R84, R95) -/

/-- A change of availability, or of the credit of an AVAILABLE action (R84). -/
def actionDiffers : Option Action → Option Action → Bool
  | some x, some y =>
    !decide (x.avail = y.avail) || (decide (y.avail = .available) && x.credit != y.credit)
  | none, none => false
  | _, _ => true

/-- The actions that differ between two states of the pool. -/
def changedActions (old new : Vector (Option Action) 96) : List Nat :=
  (List.range 96).filter (fun a => actionDiffers (rec? old a) (rec? new a))

/-- What one event changed in the pool is followed: one rescan request for each scheme reached, and the
staged views (R84, R95). `old` is the pool before the event. -/
def State.poolChanged (s : State) (old : Vector (Option Action) 96) : State :=
  let schemes := eligibleSchemes s.banks.active (changedActions old s.pool.actions)
  (s.sendAll (schemes.map (fun sch => .rescan sch .pool))).refreshStaged

/-- One event that changes one action (R84). -/
def State.actionEvent (s : State) (a : Nat) (x : Action) : State :=
  (s.setAction a x).poolChanged s.pool.actions

/-! ## One action -/

/-- The action takes an availability; its state time follows a change (Table 5-2). -/
def Action.become (now : Time) (v : Availability) (x : Action) : Action :=
  if x.avail = v then x else { x with avail := v, stateTime := now }

/-- Re-evaluation of an action that is not held, or leaves its held state (R78, R79). -/
def State.reeval (s : State) (d : ActionDef) (x : Action) : Action :=
  x.become s.now (reevaluate d (s.poolReach d.site) x.mwQuality x.credit)

/-- The held states (Table 5-3). -/
def Availability.isHeld : Availability → Bool
  | .available => false
  | .unavailableSite => false
  | .offline => false
  | .blocked => true
  | .committed => true
  | .tripped => true
  | .uncertain => true

/-- Re-evaluation of an action where it is not held (R78, R79). -/
def State.reevalFree (s : State) (d : ActionDef) (x : Action) : Action :=
  if x.avail.isHeld then x else s.reeval d x

/-- Every action of the active bank changed by `f`. -/
def State.mapActions (s : State) (f : Nat → ActionDef → Action → Action) : State :=
  { s with pool := { s.pool with actions := Vector.ofFn (fun (a : Fin 96) =>
      match s.action? a, s.actionDef a with
      | some x, some d => some (f a d x)
      | x, _ => x) } }

/-! ## Commits and outcomes (R80, R81) -/

/-- A commit request: it succeeds on an AVAILABLE action (R80). -/
def State.commitAction (s : State) (a sch serial : Nat) : Option State :=
  match s.action? a with
  | none => none
  | some x =>
    if x.avail = .available then
      some (s.actionEvent a { x with
        avail := .committed, committing := some sch, lastSerial := some serial, stateTime := s.now })
    else none

/-- Availability an outcome gives a COMMITTED action; none means re-evaluation (R81). -/
def outcomeAvailability (f : FinalState) (m : Mode) : Option Availability :=
  match f, m with
  | .confirmed, .service => some .tripped
  | .expired, .service => some .uncertain
  | _, _ => none

/-- An outcome notice acts on an action that is COMMITTED with that serial (R81). -/
def State.applyOutcome (s : State) (a serial : Nat) (f : FinalState) (m : Mode) : State :=
  match s.action? a, s.actionDef a with
  | some x, some d =>
    if x.avail = .committed ∧ x.lastSerial = some serial then
      let y := match outcomeAvailability f m with
        | some v => x.become s.now v
        | none => s.reeval d x
      s.actionEvent a { y with committing := none }
    else s
  | _, _ => s

/-- The action that a stray acknowledgement finds (R82): the lowest-numbered that matches. -/
def State.strayAction (s : State) (site serial output : Nat) : Option Nat :=
  (List.range 96).find? (fun a =>
    match s.action? a, s.actionDef a with
    | some x, some d =>
      decide (x.avail = .uncertain) && decide (x.lastSerial = some serial) && d.site == site
        && d.output == output
    | _, _ => false)

/-- A stray acknowledgement of OPERATED or TEST_OK makes the action it finds TRIPPED (R82). -/
def State.offerStray (s : State) (site serial output result : Nat) : Option (Nat × State) :=
  if result = 1 ∨ result = 2 then
    match s.strayAction site serial output with
    | none => none
    | some a =>
      match s.action? a with
      | none => none
      | some x => some (a, s.actionEvent a (x.become s.now .tripped))
  else none

/-! ## ACTION_SET (R76, R83) -/

def availabilityCode : Availability → Nat
  | .available => 1
  | .unavailableSite => 2
  | .offline => 3
  | .blocked => 4
  | .committed => 5
  | .tripped => 6
  | .uncertain => 7

/-- The DONE reply of ACTION_SET: availability and credited value (R83). -/
def actionDone (a : Nat) (s : State) : Answer :=
  match s.action? a with
  | none => .done [] s
  | some x => .done [wordOf (availabilityCode x.avail), wordOf x.credit] s

/-- ACTION_SET: number, definition, control code, then the control (R76, R83). -/
def actionRule (control : Nat → ActionDef → Action → State → Answer) (ws : List Word) (s : State) :
    Answer :=
  let w := wordAt ws 0
  let a := hi w
  if 96 ≤ a then .refuse .outOfRange s
  else
    match s.actionDef a, s.action? a with
    | some d, some x => if lo w = 0 ∨ 2 < lo w then .refuse .outOfRange s else control a d x s
    | _, _ => .refuse .noItem s

/-- BLOCK (R83). -/
def blockControl (a : Nat) (_ : ActionDef) (x : Action) (s : State) : Answer :=
  if x.avail = .committed then .refuse .badState s
  else
    actionDone a (s.actionEvent a { x.become s.now .blocked with blockCause := some .host })

/-- RESTORE (R83). -/
def restoreControl (a : Nat) (d : ActionDef) (x : Action) (s : State) : Answer :=
  match x.avail with
  | .committed => .refuse .badState s
  | .blocked => actionDone a (s.actionEvent a { s.reeval d x with blockCause := none })
  | .tripped => actionDone a (s.actionEvent a { s.reeval d x with blockCause := none })
  | .uncertain => actionDone a (s.actionEvent a { s.reeval d x with blockCause := none })
  | .available => actionDone a s
  | .unavailableSite => actionDone a s
  | .offline => actionDone a s

/-- ACTION_SET_BLOCK (R83). -/
def execActionSetBlock (s : State) : Host.Outcome State Fault Refusal :=
  .next (s.carryOut 0x2A (controlIs lo 1 2) (isLength 1) (actionRule blockControl))

/-- ACTION_SET_RESTORE (R83). -/
def execActionSetRestore (s : State) : Host.Outcome State Fault Refusal :=
  .next (s.carryOut 0x2A (controlIs lo 2 2) (isLength 1) (actionRule restoreControl))

/-! ## Notices (R77, R78, R81) -/

/-- An action whose MW point a batch names takes the notice: quality, credit, and re-evaluation where
it is not held (R77 to R79). -/
def State.takeMwNotice (s : State) (batch : List PointNotice) (d : ActionDef) (x : Action) : Action :=
  match d.namedPoint with
  | none => x
  | some p =>
    match batch.find? (fun n => n.point == p) with
    | none => x
    | some n =>
      s.reevalFree d { x with mwQuality := some n.quality, credit := creditOf d n.used n.quality }

def actionChange? : Msg → Option (List PointNotice)
  | .actionChange batch => some batch
  | _ => none

/-- ACTION_CHANGE_NOTICES (R77, R78). -/
def execActionChangeNotices (s : State) : Host.Outcome State Fault Refusal :=
  .next (match s.take (fun m => (actionChange? m).isSome) actionChange? with
    | none => s
    | some (batch, s1) =>
      (s1.mapActions (fun _ d x => s1.takeMwNotice batch d x)).poolChanged s1.pool.actions)

def actionReach? (site : Nat) : Msg → Option Bool
  | .actionReach t reach => if t = site then some reach else none
  | _ => none

/-- ACTION_SITE_REACHABILITY (R76, R78). -/
def execActionSiteReachability (site : Fin 16) (s : State) : Host.Outcome State Fault Refusal :=
  .next (match s.take (fun m => (actionReach? site m).isSome) (actionReach? site) with
    | none => s
    | some (reach, s1) =>
      let s2 := { s1 with pool := { s1.pool with siteReach := put s1.pool.siteReach site reach } }
      (s2.mapActions (fun _ d x => if d.site = site then s2.reevalFree d x else x)).poolChanged
        s1.pool.actions)

/-- A live order in the table names the action with that serial (R80). -/
def State.hasLiveOrder (s : State) (a serial : Nat) : Bool :=
  s.dispatcher.orders.any (fun o => o.action == a && o.serial == serial &&
    match o.state with
    | .queued => true
    | .sent => true
    | .rerouted => true
    | .final _ => false)

/-- OUTCOME_NOTICE (R81). The pool takes an outcome in the step that ends the order (R79); a notice
that still finds the action COMMITTED with that serial is taken only when no live order names it (log
5). -/
def execOutcomeNotice (a : Fin 96) (serial : Nat) (outcome : FinalState) (mode : Mode) (s : State) :
    Host.Outcome State Fault Refusal :=
  .next (if s.hasLiveOrder a serial then s else s.applyOutcome a serial outcome mode)

def lateConfirm? (a : Nat) : Msg → Option (Nat × Mode)
  | .lateConfirm b serial mode => if b = a then some (serial, mode) else none
  | _ => none

/-- LATE_CONFIRMATION_NOTICE (R81): in SERVICE mode an action that still carries the serial and is not
held becomes TRIPPED. -/
def execLateConfirmationNotice (a : Fin 96) (s : State) : Host.Outcome State Fault Refusal :=
  .next (match s.take (fun m => (lateConfirm? a m).isSome) (lateConfirm? a) with
    | none => s
    | some ((serial, mode), s1) =>
      match s1.action? a with
      | none => s1
      | some x =>
        if mode = .service ∧ x.lastSerial = some serial ∧ x.avail.isHeld = false then
          s1.actionEvent a (x.become s1.now .tripped)
        else s1)

end Sys2Proof.Machine
end

