-- ==== Sys2Proof/Machine/Commit.lean ====
section
/-! DEFINITION. The bank commit (R165 to R167) with every block's carry rule, and the command that makes
it. Log 38 gives the order in which the blocks take their carry in the one step. -/

namespace Sys2Proof.Machine

/-! ## Banks (R165) -/

/-- The banks change places and the switch ends (R165). -/
def BankStore.swap (b : BankStore) : BankStore where
  active := b.staged
  staged := b.active
  switch := .idle
  requested := none
  carry := Vector.replicate 16 none

/-! ## Points (R20) -/

/-- The points at a commit (R20); `old` is the bank that was active. -/
def State.carryPoints (s : State) (old : Bank) : State :=
  let new := s.banks.active
  { s with points := { s.points with
      analog := Vector.ofFn (fun (a : Fin 64) =>
        carryPoint s.now 0 ((rec? old.analog a).map AnalogDef.source)
          ((rec? new.analog a).map (fun d => (d.source, d.staleness))) (rec? s.points.analog a))
      status := Vector.ofFn (fun (a : Fin 128) =>
        carryPoint s.now StatusVal.invalid ((rec? old.status a).map StatusDef.source)
          ((rec? new.status a).map (fun d => (d.source, d.staleness))) (rec? s.points.status a)) } }

/-! ## Contingencies (R38) -/

/-- The contingency whose live execution count an execution-end notice lowers. -/
def endedContingency? : Msg → Option Nat
  | .execEnd k _ => some k
  | _ => none

/-- Every execution-end notice on its way is taken, so that every live execution count is 0 at the commit (R38): a
contingency that is ready to clear becomes CLEAR as its count comes to 0 (R34; log 69: DEDUCED). -/
def State.settleEnds (s : State) : State := (s.inflight.filterMap endedContingency?).foldl State.lowerCount s

/-- One contingency at a commit (R38). -/
def carryContingency (d : Option ContingencyDef) (x : Option Contingency) : Option Contingency :=
  match d with
  | none => none
  | some d =>
    let fresh := Contingency.cleared d.terms.length
    match x with
    | none => some fresh
    | some y =>
      if y.state = .held then
        some { fresh with
          state := .held, firstEvidence := y.firstEvidence, detectTime := y.detectTime
          degraded := y.degraded }
      else some fresh

def State.carryContingencies (s : State) : State :=
  { s with detector := Vector.ofFn (fun (k : Fin 32) =>
      carryContingency (s.contingencyDef k) (s.contingency? k)) }

/-! ## Channels and sites (R153) -/

/-- A POLL in transmission for a site the channel no longer serves has lost its owner's record (R139). -/
def Sending.dropSite (site : Nat) (t : Sending) : Sending :=
  match t.frame with
  | .poll i => if i = site then { t with orphan := true } else t
  | _ => t

/-- The record of a site on a channel starts clear (R153). -/
def State.clearLink (s : State) (c site : Nat) : State :=
  let ch := s.channel c
  (s.setChannel c { ch with tx := ch.tx.map (Sending.dropSite site) }).setLink c site Link.clear

/-- A channel whose record is unchanged: pairs of sites that come or go are cleared, and its poll cycle
starts afresh, as any cycle start does, when its served set changes (R141, R142, R153). -/
def State.keepChannel (s : State) (c : Nat) (before : List Nat) : State :=
  let after := s.served c
  let moved := (List.range 16).filter (fun i => before.contains i != after.contains i)
  let s1 := moved.foldl (fun s' i => s'.clearLink c i) s
  let ch := s1.channel c
  if moved.isEmpty || !ch.state.inService then s1
  else
    let cadence := ch.cadence.atCycleStart
    s1.setChannel c { ch with cadence := cadence, cycle := some ⟨s.now, 0, s.pollPeriod cadence⟩ }

/-- The new record enables the channel (R153). -/
def State.isEnabled (s : State) (c : Nat) : Bool :=
  match s.channelDef c with
  | none => false
  | some d => d.enabled

/-- A channel whose record changed: reset, then DISABLED or ACQUIRING by the new record (R149, R153). One that
becomes DISABLED keeps its cadence with settle end and return mark (log 42). -/
def State.commitReset (s : State) (c : Nat) : State :=
  let old := (s.channel c).state
  let s1 := s.resetWorking c
  if s.isEnabled c then (s1.enterAcquiring c).reportChannel c old .acquiring .commit
  else
    (s1.setChannel c { s1.channel c with state := .disabled, cycle := none }).noteChannel c old .commit

/-- One channel at a commit (R153); `before` is what it served. -/
def State.carryChannel (s : State) (old : Bank) (c : Nat) (before : List Nat) : State :=
  if rec? old.channel c = s.channelDef c then s.keepChannel c before else s.commitReset c

/-- What a channel served under the old bank. -/
def servedIn (b : Bank) (c : Nat) : List Nat :=
  (List.range 16).filter (fun i =>
    match rec? b.site i with
    | none => false
    | some d => d.channels.contains c)

/-- The channel given as the cause of a change of a site's reachability at a commit (R144): the first on which
the site is reachable after it, or else the first on which it was before it (log 45). -/
def commitChannel (before after : List Nat) : Nat := (after ++ before).headD 0

/-- One site at a commit (R153): reachability, then route, with no live order. `heard` are the channels on which
the site was reachable before the commit. -/
def State.carrySite (s : State) (old : Bank) (heard : List Nat) (site : Nat) : State :=
  let before := rec? old.site site
  let after := s.siteDef site
  let s1 := s.setSite site { s.site site with liveOrders := 0 }
  let s2 := s1.refreshReach (commitChannel heard (s1.reachableOn site)) site
  match after with
  | none => s2.setRoute site .none .commit
  | some _ =>
    if before = after then s2.judgeRoute site true
    else s2.setRoute site (s2.preferredRoute site) .commit

/-- Channels and sites at a commit (R153). -/
def State.carryUnits (s : State) (old : Bank) : State :=
  let s1 := (List.range 8).foldl (fun s' c => s'.carryChannel old c (servedIn old c)) s
  (List.range 16).foldl (fun s' i => s'.carrySite old (s.reachableBy (rec? old.site i) i) i) s1

/-! ## Actions (R76, R99) -/

/-- What an action takes from its MW point after the commit (R76, R99). -/
def State.mwView (s : State) (d : ActionDef) : UsedValue × Quality :=
  match d.namedPoint with
  | some p => s.liveView p
  | none => noView

/-- One action at a commit (R99). -/
def State.carryAction (s : State) (d : ActionDef) (x : Option Action) : Action :=
  let v := s.mwView d
  let credit := creditOf d v.1 v.2
  let quality := d.namedPoint.map (fun _ => v.2)
  match x with
  | none =>
    { avail := reevaluate d (s.poolReach d.site) quality credit
      credit := credit
      mwQuality := quality
      lastSerial := none
      blockCause := none
      committing := none
      stateTime := s.now }
  | some y =>
    let z := { y with credit := credit, mwQuality := quality, committing := none }
    if y.avail.isCarried then z else s.reeval d z

def State.carryActions (s : State) : State :=
  { s with pool := { s.pool with
      staged := Vector.replicate 96 none
      actions := Vector.ofFn (fun (a : Fin 96) =>
        match s.actionDef a with
        | none => none
        | some d => some (s.carryAction d (s.action? a))) } }

/-! ## Schemes (R52, R54, R74, R166) -/

/-- A scheme's arm state and dwell by the carry rule, on its prepared record (R52, R74, R166). -/
def carryScheme (now : Time) (d : SchemeDef) (x : Option Scheme) (prepared : Option EvalRec) : Scheme :=
  let enable := enableAfter d x
  let record := if enable then prepared else none
  let c := carryRule d now x ((prepared.map EvalRec.q).getD 0)
  let arm := match c.1 with
    | .off => .disarmed
    | .on a => a
  match x with
  | none =>
    { enable := enable
      blocked := false
      mode := d.initialMode
      arm := arm
      frozen := false
      dwell := c.2
      preExec := none
      stateTime := now
      record := record }
  | some y =>
    Scheme.stamped now y
      { y with arm := arm, frozen := false, dwell := c.2, preExec := none, record := record }

/-- One scheme at a commit, with its report and its notice to the Engine (R58, R74). -/
def State.commitScheme (old : Vector (Option Scheme) 16) (prepared : Vector (Option EvalRec) 16)
    (s : State) (i : Nat) : State :=
  match s.schemeDef i with
  | none => { s with evaluator := { s.evaluator with schemes := put s.evaluator.schemes i none } }
  | some d =>
    let x := rec? old i
    let y := carryScheme s.now d x (rec? prepared i)
    let before := (x.map Scheme.reported).getD .off
    let s1 := s.setScheme i y
    let s2 := if before = y.reported then s1 else s1.reportArm i before y .commit
    let same := match x with
      | none => false
      | some z => decide (z.arm = y.arm) && z.enable == y.enable && decide (z.mode = y.mode)
    if same then s2 else s2.send (stateNoticeOf i y)

def State.carrySchemes (s : State) : State :=
  let old := s.evaluator.schemes
  let prepared := s.evaluator.prepared
  let s1 := (List.range 16).foldl (State.commitScheme old prepared) s
  { s1 with evaluator := { s1.evaluator with prepared := Vector.replicate 16 none } }

/-! ## Selection Engine (R96, R99) -/

/-- The scheme is defined in the new active bank. -/
def State.isScheme (s : State) (i : Nat) : Bool := (s.schemeDef i).isSome

/-- A scheme as the Engine reads it at a commit: as the Evaluator leaves it after the carry (R167, log 41). -/
def viewAtCommit : Option Scheme → SchemeView
  | none => SchemeView.off
  | some x => ⟨x.enable, x.arm, x.mode, false⟩

/-- The Engine at a commit: queues, scans and held flags cleared, shadow selections published (R99). -/
def State.carryEngine (s : State) : State :=
  let e := s.engine
  s.setEngine { e with
    known := Vector.ofFn (fun (i : Fin 16) => viewAtCommit (s.scheme? i))
    held := Vector.replicate 16 false
    cover := []
    queue := []
    running := none
    suspended := none
    published := Vector.ofFn (fun (i : Fin 16) => if s.isScheme i then rec? e.shadow i else none)
    shadow := Vector.replicate 16 none }

/-- SELECTION_CHANGE of a scheme whose set of actions differs from its set before the commit (R99). A
scheme that is now never published counts as an empty set (R88): no entries and sum 0; its requirement and
flags are free values (log 29). A scheme that the commit leaves undefined has no report (log 46). -/
def State.reportCarried (old : Vector (Option Selection) 16) (s : State) (i : Nat) : State :=
  let before := rec? old i
  let after := rec? s.engine.published i
  if !s.isScheme i || sameSet (selectionActions before) (selectionActions after) then s
  else
    match after with
    | some x => s.reportSelection i x
    | none => s.report (mkReport .selectionChange false s.now i
      [Config.carriedRequirement s.now i, 0, wordPair 0 (Config.carriedStatus s.now i).toNat])

/-- One site's image at a commit (R96). -/
def State.carryImage (old : Bank) (s : State) (site : Nat) : State :=
  match rec? old.site site, s.siteDef site with
  | none, some _ => s.sendNewImage site (s.imageCodes site)
  | some _, none => s.setImage site { s.image site with codes := [], conf := .unconfirmed }
  | some _, some _ => s.refreshImage site
  | none, none => s

/-! ## The commit (R165, R167) -/

/-- Messages that a commit takes back: they speak of executions, freezes, preparation or live orders,
of which none is left (logs 14, 15; execution ends are settled first, log 69), of points or actions of the old bank, of
scheme states that the commit itself hands to the Engine (log 41), or of a scheme that is no longer defined. -/
def dropsAtCommit (s : State) : Msg → Bool
  | .actionChange _ => true
  | .liveOrder _ _ => true
  | .freezeReq _ => true
  | .freezeRel _ => true
  | .execEnd _ _ => true
  | .freezeNote _ => true
  | .freezeRelNote _ => true
  | .shadowRequeue _ => true
  | .schemeState _ _ _ _ => true
  | .rescan i _ => !s.isScheme i
  | .coverReq _ _ => true
  | .coverCancel _ => true
  | .coverStarted _ => true
  | .coverHandover _ _ => true
  | _ => false

/-- BANK_EVENT of event COMMITTED (R170). -/
def State.reportCommit (s : State) (former : Word) : State :=
  let check := (s.banks.active.check).getD 0xFFFFFFFF
  s.reportBank 4 s.banks.active.label former (check.extractLsb' 16 16) (check.extractLsb' 0 16)

/-- The commit (R165, R167): the blocks in the order of log 38 (DEDUCED), the items of a block by ascending number
(log 65: DESIGN CHOICE). -/
def State.commitBank (s : State) : State :=
  let old := s.banks.active
  let selections := s.engine.published
  let s1 := { s with banks := s.banks.swap, views := StagedPoints.none }
  let s2 := (s1.settleEnds.withdraw (dropsAtCommit s1)).carryPoints old
  let s3 := s2.carryContingencies.carryUnits old
  let s4 := s3.carryActions.carrySchemes
  let s5 := s4.carryEngine
  let s6 := (List.range 16).foldl (State.reportCarried selections) s5
  let s7 := (List.range 16).foldl (State.carryImage old) s6
  s7.refreshAlert.reportCommit old.label

/-- The contingency keeps the part from being quiescent (R165): it is PENDING, has a hand-off awaiting its answer, or
is the trigger of a scheme that is EXECUTING. -/
def State.unsettled (s : State) (k : Nat) : Bool :=
  match s.contingency? k with
  | none => false
  | some x => decide (x.state = .pending) || !x.awaiting.isEmpty ||
      (s.triggered k).any (fun i => decide ((s.scheme? i).map Scheme.arm = some .executing))

/-- The lowest-numbered contingency that keeps the part from being quiescent (R165). -/
def State.blocking (s : State) : Nat := ((List.range 32).find? s.unsettled).getD 0

def shadowComplete? : Msg → Option Unit
  | .shadowComplete => some ()
  | _ => none

/-- SHADOW_COMPLETE_NOTICE (R165). The staged views are brought up to date first, so that every prepared record is
what a live evaluation would give now (R52); where that calls for shadow work, the next notice is awaited. -/
def execShadowCompleteNotice (s : State) : Host.Outcome State Fault Refusal :=
  .next (match s.take (fun m => (shadowComplete? m).isSome) shadowComplete? with
    | none => s
    | some (_, s1) =>
      let s2 := s1.refreshPreparation
      if decide (s2.banks.switch = .preparing) && s2.shadowDone then
        if s2.quiescent then s2.commitBank else s2.abortPreparation s2.blocking
      else s2)

end Sys2Proof.Machine
end

