-- ==== Sys2Proof/Machine/HostPort.lean ====
section
/-! DEFINITION. The receivers of both kinds of line (R191, R192), arrival and refusal of host frames, the
reply transmitter, IDENT and REPORT_FETCH (chapters 9 to 11). -/

namespace Sys2Proof.Machine

/-! ## Receivers (R191, R192) -/

def State.rx (s : State) : Receiver → RxState
  | .host => s.port.rx
  | .channel c => (s.channel c).rx

def State.setRx (s : State) (r : Receiver) (x : RxState) : State :=
  match r with
  | .host => { s with port := { s.port with rx := x } }
  | .channel c => s.setChannel c { s.channel c with rx := x }

/-- A DISABLED channel receives nothing (R130). -/
def State.receives (s : State) : Receiver → Bool
  | .host => true
  | .channel c => !decide ((s.channel c).state = .disabled)

/-- The bytes after the first delimiter, C5h then 3Ah (R191). -/
def afterDelimiter : List Byte → Option (List Byte)
  | [] => none
  | b :: rest =>
    match rest with
    | [] => none
    | c :: more => if b = 0xC5 ∧ c = 0x3A then some more else afterDelimiter rest

/-- DELIMITER_FOUND (R191): `bytes` follow those the receiver still has to examine. Fewer than four bytes
stand after the delimiter, or the header would have been decoded. -/
def execDelimiterFound (rx : Receiver) (bytes : List Byte) (s : State) :
    Host.Outcome State Fault Refusal :=
  .next (match s.rx rx with
    | .hunt left =>
      match afterDelimiter (left ++ bytes) with
      | none => s
      | some rest => if s.receives rx && decide (rest.length < 4) then s.setRx rx (.header rest) else s
    | .header _ => s
    | .body _ => s)

/-- What a header whose fourth byte has arrived leads to. -/
inductive HeaderFate where
  | unreadable
  | tooLong (h : Header)
  | readable (h : Header)
deriving DecidableEq, Repr

/-- The header is checked and corrected, and its length tested (R191, R192). -/
def decodeHeader (b0 b1 b2 b3 : Byte) : HeaderFate :=
  match readHeader b0 b1 b2 b3 with
  | none => .unreadable
  | some h => if Config.payloadLimit < h.length then .tooLong h else .readable h

/-- A header that ends its frame: a BAD outcome on a channel (R130), on the host line a BAD_FRAME refusal
where the length is above 120 (R172). The hunt resumes at the byte after the delimiter (R191). -/
def State.badHeader (s : State) (rx : Receiver) (bytes : List Byte) (h : Option Header) : State :=
  let s1 := s.setRx rx (.hunt bytes)
  match rx, h with
  | .channel c, _ => s1.recordOutcomes c [false]
  | .host, none => s1
  | .host, some x => s1.refuseNow x.kind x.address .badFrame

/-- HEADER_DECODE (R191, R192): `bytes` complete the four bytes of the header. -/
def execHeaderDecode (rx : Receiver) (bytes : List Byte) (s : State) :
    Host.Outcome State Fault Refusal :=
  .next (match s.rx rx with
    | .header got =>
      match got ++ bytes with
      | [b0, b1, b2, b3] =>
        if s.receives rx then
          match decodeHeader b0 b1 b2 b3 with
          | .unreadable => s.badHeader rx [b0, b1, b2, b3] none
          | .tooLong h => s.badHeader rx [b0, b1, b2, b3] (some h)
          | .readable h => s.setRx rx (.body h)
        else s
      | _ => s
    | .hunt _ => s
    | .body _ => s)

/-! ## Arrival (R172 to R174) -/

/-- A request that passed the checks is offered to the request queue (R174). -/
def State.offerRequest (s : State) (h : Header) (ws : List Word) : State :=
  if s.port.requests.length < Config.requestLimit then
    { s with port := { s.port with
        requests := s.port.requests ++ [⟨h.kind, h.address, ws, .waiting⟩] } }
  else s.refuseNow h.kind h.address .busy

/-- HOST_REQUEST_ARRIVAL (R172 to R174). -/
def execHostRequestArrival (payload : List Byte) (crc : Word) (s : State) :
    Host.Outcome State Fault Refusal :=
  .next (match s.port.rx with
    | .body h =>
      if payload.length ≠ 2 * h.length then s
      else
        let s1 := s.setRx .host (.hunt [])
        if !crcPasses h payload crc then s1.refuseNow h.kind h.address .badFrame
        else if h.reply || !requestKinds.contains h.kind then s1.refuseNow h.kind h.address .badKind
        else s1.offerRequest h (bytesToWords payload)
    | .hunt _ => s
    | .header _ => s)

/-- HOST_BYTE_GAP (R172): after the header a BAD_FRAME refusal, before it none. -/
def execHostByteGap (s : State) : Host.Outcome State Fault Refusal :=
  .next (match s.port.rx with
    | .hunt _ => s
    | .header _ => s.setRx .host (.hunt [])
    | .body h =>
      if h.length = 0 then s
      else (s.setRx .host (.hunt [])).refuseNow h.kind h.address .badFrame)

/-! ## The transmitter (R173, R174, R177) -/

/-- The oldest entry whose reply has been sent is freed (R174). -/
def freeReplied (rs : List Request) : List Request := rs.eraseP (fun r => decide (r.stage = .replied))

/-- REPLY_TRANSMITTED (R174): the last frame of the completion reply at the head has been sent. -/
def execReplyTransmitted (s : State) : Host.Outcome State Fault Refusal :=
  .next (match s.port.replies with
    | [] => s
    | r :: rest =>
      if r.immediate then s
      else { s with port := { s.port with replies := rest, requests := freeReplied s.port.requests } })

/-- REFUSAL_TRANSMITTED (R173): the immediate refusal at the head has been sent. -/
def execRefusalTransmitted (s : State) : Host.Outcome State Fault Refusal :=
  .next (match s.port.replies with
    | [] => s
    | r :: rest =>
      if r.immediate then { s with port := { s.port with replies := rest } } else s)

/-! ## IDENT (R178, R195) -/

/-- IDENT's owning rule (R178, R195). -/
def identRule (_ : List Word) (s : State) : Answer :=
  .done ([2416, wordPair 1 s.port.straps.toNat] ++ wordsTime s.now ++
    [wordOf (bankStateCode s.banks.active.state), s.banks.active.label]) s

/-- IDENT (R178). -/
def execIdent (s : State) : Host.Outcome State Fault Refusal :=
  .next (s.carryOut 0x20 anyRequest (isLength 0) identRule)

/-! ## REPORT_FETCH (R188) -/

/-- Kind codes of Table 11-7. -/
def reportKindCode : ReportKind → Nat
  | .contingencyDetected => 1
  | .executionStart => 2
  | .orderOutcome => 3
  | .executionEnd => 4
  | .detectedNotArmed => 5
  | .lateTrip => 6
  | .engineRestart => 7
  | .contingencyUnconfirmed => 8
  | .armState => 9
  | .selectionChange => 10
  | .pointQuality => 11
  | .channelState => 12
  | .routeChange => 13
  | .siteReachability => 14
  | .armImageUnconfirmed => 15
  | .bankEvent => 16
  | .rxOverrun => 17

/-- A report record as eight words (Table 11-6, R195). -/
def Report.words (r : Report) : List Word :=
  wordPair (reportKindCode r.kind * 8 + (if r.gap then 4 else 0) + (if r.test then 2 else 0)) r.subject
    :: wordsTime r.time ++ r.details

/-- The number of records a fetch removes (R188). -/
def fetchCount (n held : Nat) : Nat := min (min n 16) held

/-- REPORT_FETCH's owning rule (R188). -/
def reportFetchRule (ws : List Word) (s : State) : Answer :=
  let n := fetchCount (wordAt ws 0).toNat s.reports.records.length
  let rest := { s.reports with records := s.reports.records.drop n }
  .done ((s.reports.records.take n).flatMap Report.words ++
    [wordOf rest.records.length, wordOf rest.executionCount, wordOf rest.routineCount,
      wordFlag rest.gapAny, wordFlag rest.gapRoutine]) { s with reports := rest }

/-- REPORT_FETCH (R188). -/
def execReportFetch (s : State) : Host.Outcome State Fault Refusal :=
  .next (s.carryOut 0x2F anyRequest (isLength 1) reportFetchRule)

end Sys2Proof.Machine
end

