-- ==== Sys2Proof/Machine/Dispatcher.lean ====
section
/-! DEFINITION. The Trip Dispatcher (chapter 6): executions, trip orders, acknowledgements, timeouts,
cover, and the end of an execution. -/

namespace Sys2Proof.Machine

/-! ## Orders and credits (Tables 6-1 to 6-3) -/

def OrderState.isLive : OrderState → Bool
  | .queued => true
  | .sent => true
  | .rerouted => true
  | .final _ => false

/-- The order counts towards the standing credit: live or CONFIRMED (Table 6-1). -/
def OrderState.stands : OrderState → Bool
  | .queued => true
  | .sent => true
  | .rerouted => true
  | .final f => decide (f = .confirmed)

/-- The orders of an execution, in creation order (R101). -/
def State.ordersOf (s : State) (sch : Nat) : List Order :=
  s.dispatcher.orders.filter (fun o => o.scheme == sch)

def creditSum (os : List Order) : Nat := (os.map Order.credit).sum

def State.standing (s : State) (sch : Nat) : Nat :=
  creditSum ((s.ordersOf sch).filter (fun o => o.state.stands))

def State.confirmed (s : State) (sch : Nat) : Nat :=
  creditSum ((s.ordersOf sch).filter (fun o => decide (o.state = .final .confirmed)))

/-- The order with a serial is changed. -/
def State.updateOrder (s : State) (serial : Nat) (f : Order → Order) : State :=
  s.mapOrders (fun o => if o.serial = serial then f o else o)

/-- The execution record of a scheme is changed, if there is one. -/
def State.updateExec (s : State) (sch : Nat) (f : Exec → Exec) : State :=
  match s.exec? sch with
  | none => s
  | some x => s.setExec sch (some (f x))

/-- Mode of the execution an order belongs to. -/
def State.modeOf (s : State) (sch : Nat) : Mode := ((s.exec? sch).map Exec.mode).getD .service

/-- The serial after `n`, 65535 followed by 1, with those of `held` passed over (R105). At most 48 are
held, so `fuel` of 49 always finds a free one. -/
def nextSerial (held : List Nat) : Nat → Nat → Nat
  | 0, n => n
  | fuel + 1, n =>
    let m := if 65535 ≤ n then 1 else n + 1
    if held.contains m then nextSerial held fuel m else m

/-! ## Final states (R81, R107, R121) -/

/-- The order takes a final state at `now`; its timeout stops. -/
def Order.finish (now : Time) (f : FinalState) (late mismatch : Bool) (o : Order) : Order :=
  { o with
    state := .final f, outcomeTime := some now, timeoutEnd := none, late := late
    mismatch := mismatch }

/-- A live order reaches a final state: the order, the site's live order count, the pool (R79, R81,
R146). -/
def State.endOrder (s : State) (o : Order) (f : FinalState) (late mismatch : Bool) : State :=
  let s1 := (s.updateOrder o.serial (Order.finish s.now f late mismatch)).send (.liveOrder o.site false)
  s1.applyOutcome o.action o.serial f (s.modeOf o.scheme)

/-! ## Cover requests (R114, R115) -/

/-- Deficit of an execution: the frozen requirement less the standing credit, 0 if that is less. -/
def State.deficit (s : State) (sch : Nat) : Nat :=
  ((s.exec? sch).map Exec.requirement).getD 0 - s.standing sch

/-- A cover request joins the Engine's queue (R115). -/
def State.requestCover (s : State) (sch : Nat) : State :=
  (s.updateExec sch (fun x => { x with
    cover := .requested, exhausted := false, recheck := false })).send (.coverReq sch (s.deficit sch))

/-- What follows a failure (R114): cover is requested, or the recheck mark set. -/
def State.coverAfterFailure (s : State) (sch : Nat) : State :=
  if s.deficit sch = 0 then s
  else
    match (s.exec? sch).map Exec.cover with
    | none => s
    | some .none => s.requestCover sch
    | some .requested => s.updateExec sch (fun x => { x with recheck := true })
    | some .running => s.updateExec sch (fun x => { x with recheck := true })

/-- An order becomes FAILED (R114); the cover that may follow is asked for by the caller. -/
def State.failOrder (s : State) (o : Order) : State :=
  let s1 := s.endOrder o .failed o.late o.mismatch
  if o.origin = .mandatory then s1.updateExec o.scheme (fun x => { x with mandatoryMissing := true })
  else s1

/-! ## The end of an execution (R119, R121, R122) -/

/-- Outcome of an execution (R119, R120). -/
inductive ExecOutcome where
  | complete
  | short
  | expired
deriving DecidableEq, Repr

def execOutcomeCode : ExecOutcome → Nat
  | .complete => 1
  | .short => 2
  | .expired => 3

def finalCode : FinalState → Nat
  | .confirmed => 1
  | .failed => 2
  | .withdrawn => 3
  | .expired => 4

def orderStateCode : OrderState → Nat
  | .queued => 1
  | .sent => 2
  | .rerouted => 3
  | .final .confirmed => 4
  | .final .failed => 5
  | .final .withdrawn => 6
  | .final .expired => 7

def originCode : OrderOrigin → Nat
  | .selection => 1
  | .mandatory => 2
  | .cover => 3

/-- A live order has no final state to report; every order of an ended execution has one (R121). -/
def OrderState.finalCode : OrderState → Nat
  | .final f => Sys2Proof.Machine.finalCode f
  | _ => 0

def bit (b : Bool) (n : Nat) : Nat := if b then n else 0

/-- ORDER_OUTCOME report (R122, Table 11-7). -/
def orderReport (test : Bool) (o : Order) : Report :=
  let outcome := o.outcomeTime.getD o.creation
  mkReport .orderOutcome test outcome o.action
    [wordOf o.serial, wordCapped o.credit, wordOf (Time.age outcome o.creation),
      BitVec.ofNat 16 (o.state.finalCode * 4096 + o.attempt * 1024 + originCode o.origin * 256
        + bit o.late 128 + bit o.mismatch 64 + o.channel)]

/-- Number of orders that ended in a final state. -/
def finalCount (f : FinalState) (os : List Order) : Nat :=
  (os.filter (fun o => decide (o.state = .final f))).length

/-- Flags of an execution as Table 11-7 packs them. -/
def Exec.flagBits (x : Exec) : Nat :=
  bit x.degraded 1 + bit x.coldStart 2 + bit x.tableFull 4 + bit x.coverUsed 8
    + bit x.mandatoryMissing 16

/-- EXECUTION_END report (R122, Table 11-7). -/
def State.endReport (s : State) (sch : Nat) (x : Exec) (outcome : ExecOutcome) : Report :=
  let os := s.ordersOf sch
  mkReport .executionEnd (decide (x.mode = .test)) s.now sch
    [wordCapped (s.confirmed sch), wordCapped (creditSum os),
      wordPair (finalCount .confirmed os) (finalCount .failed os),
      wordPair (finalCount .withdrawn os) (finalCount .expired os),
      BitVec.ofNat 16 (execOutcomeCode outcome * 256 + x.flagBits)]

/-- The end of an execution (R121). -/
def State.endExecution (s : State) (sch : Nat) (x : Exec) (outcome : ExecOutcome) : State :=
  let test := decide (x.mode = .test)
  let reports := (s.ordersOf sch).map (orderReport test) ++ [s.endReport sch x outcome]
  let s1 := reports.foldl State.report s
  let s2 := s1.sendAll [.schemeEnd sch x.mode, .execEnd x.contingency sch]
  { s2 with dispatcher := { s2.dispatcher with
      execs := put s2.dispatcher.execs sch none
      orders := s2.dispatcher.orders.filter (fun o => o.scheme != sch) } }

/-- The execution is settled (R119). -/
def State.settled (s : State) (sch : Nat) (x : Exec) : Bool :=
  (s.ordersOf sch).all (fun o => !o.state.isLive) && decide (x.cover = .none) &&
    (decide (x.requirement ≤ s.standing sch) || x.exhausted)

/-- The end conditions are judged (R119). -/
def State.judgeEnd (s : State) (sch : Nat) : State :=
  match s.exec? sch with
  | none => s
  | some x =>
    if s.settled sch x then
      s.endExecution sch x (if x.requirement ≤ s.confirmed sch then .complete else .short)
    else s

/-- A failure outside a walk: the order, cover, end conditions (R114). -/
def State.failAndFollow (s : State) (o : Order) : State :=
  ((s.failOrder o).coverAfterFailure o.scheme).judgeEnd o.scheme

/-! ## Routes and attempts (R106, R111, R113) -/

def routeChannel : Route → Option Nat
  | .none => none
  | .primary c => some c
  | .alternate c => some c

/-- The site's other channel than attempt 1's (R111). -/
def State.otherChannel (s : State) (o : Order) : Option Nat :=
  match s.siteDef o.site with
  | none => none
  | some d => if o.firstChannel = d.primary then d.alternate else some d.primary

/-- The TRIP frame of an order's current attempt (R106, R111). -/
def State.tripFrame (s : State) (o : Order) : TxFrame :=
  .trip o.site o.serial o.output o.scheme o.attempt (decide (s.modeOf o.scheme = .test))

/-- Attempt 1 has timed out or is lost (R111): reroute where the other channel is usable, and else, or
where its queue refuses the frame, `fail`. -/
def State.retry (s : State) (o : Order) (fail : State → Order → State) : State :=
  match s.otherChannel o with
  | none => fail s o
  | some c =>
    if s.usable c o.site then
      let p := { o with
        state := .rerouted, attempt := 2, channel := c, sendTime := none, timeoutEnd := none }
      let s1 := s.updateOrder o.serial (fun _ => p)
      match s1.offer c (s.tripFrame p) with
      | (true, s2) => s2
      | (false, s2) => fail s2 p
    else fail s o

/-- A lost attempt outside a walk (R113). -/
def State.attemptLost (s : State) (o : Order) : State :=
  match o.state with
  | .queued => s.retry o State.failAndFollow
  | .sent => s.retry o State.failAndFollow
  | .rerouted => s.failAndFollow o
  | .final _ => s

/-! ## The walk (R104 to R106, R115) -/

/-- An entry for which no order is created (R104). -/
def Exec.loseEntry (x : Exec) : Exec := { x with entriesLost := x.entriesLost + 1 }

/-- The order of a committed action on channel `c` (R106). -/
def State.newOrder (s : State) (sch c : Nat) (d : ActionDef) (origin : OrderOrigin) (e : SelEntry) :
    Order where
  serial := s.dispatcher.nextSerial
  action := e.action
  site := d.site
  output := d.output
  credit := e.credit
  scheme := sch
  origin := origin
  attempt := 1
  channel := c
  firstChannel := c
  state := .queued
  creation := s.now
  sendTime := none
  timeoutEnd := none
  outcomeTime := none
  late := false
  mismatch := false

/-- The order joins the table, the serial advances, and the TRIP frame is offered; a refused frame is a
lost attempt (R105, R106, R113). Cover and end conditions follow the walk (log 17). -/
def State.createOrder (s : State) (o : Order) : State :=
  let orders := s.dispatcher.orders ++ [o]
  let s1 := { s with dispatcher := { s.dispatcher with
    orders := orders
    nextSerial := nextSerial (orders.map Order.serial) 49 s.dispatcher.nextSerial } }
  let s2 := s1.send (.liveOrder o.site true)
  match s2.offer o.channel (s2.tripFrame o) with
  | (true, s3) => s3
  | (false, s3) => s3.retry o State.failOrder

/-- One entry of a walk (R104, R106). -/
def State.walkEntry (sch : Nat) (origin : OrderOrigin) (s : State) (e : SelEntry) : State :=
  if Config.orderLimit ≤ s.dispatcher.orders.length then
    s.updateExec sch (fun x => { x.loseEntry with tableFull := true })
  else
    match s.commitAction e.action sch s.dispatcher.nextSerial, s.actionDef e.action with
    | some s1, some d =>
      match routeChannel (s.site d.site).route with
      | none => s.updateExec sch Exec.loseEntry
      | some c => s1.createOrder (s.newOrder sch c d origin e)
    | _, _ =>
      s.updateExec sch (fun x => { x.loseEntry with
        mandatoryMissing := x.mandatoryMissing || decide (origin = .mandatory) })

/-- Origin of a selection entry (R104). -/
def entryOrigin (d : SchemeDef) (e : SelEntry) : OrderOrigin :=
  if d.mandatory.contains e.action then .mandatory else .selection

/-- The entries an execution walks: its selection, or at a cold start the scheme's mandatory actions
with credit 0 (R104). -/
def startEntries (d : SchemeDef) : Option Selection → List SelEntry
  | some x => x.entries
  | none => d.mandatory.map (fun a => ⟨a, 0⟩)

/-- The walk of a selection (R104). -/
def State.walkSelection (s : State) (sch : Nat) (d : SchemeDef) (es : List SelEntry) : State :=
  es.foldl (fun s' e => s'.walkEntry sch (entryOrigin d e) e) s

/-! ## Starting an execution (R102 to R104) -/

/-- DETECTED_NOT_ARMED report (R102, Table 11-7). -/
def State.notArmedReport (s : State) (k sch : Nat) (detect : Time) (degraded : Bool) (mode : Mode)
    (reason : NotStarted) : Report :=
  mkReport .detectedNotArmed (decide (mode = .test)) s.now sch
    ([wordPair k (notStartedCode reason)] ++ wordsTime detect ++ [wordFlag degraded])

/-- EXECUTION_START report (R103, Table 11-7). -/
def State.startReport (s : State) (sch : Nat) (x : Exec) (sel : Option Selection) : Report :=
  let entries := (sel.map Selection.entries).getD []
  mkReport .executionStart (decide (x.mode = .test)) s.now sch
    [wordPair x.contingency entries.length, wordOf x.requirement, wordCapped (sumCredits entries),
      BitVec.ofNat 16 (bit x.coldStart 1 + bit x.degraded 2)]

/-- The execution record at its start (R103). -/
def newExec (now : Time) (k : Nat) (detect : Time) (degraded : Bool) (d : SchemeDef) (x : Scheme)
    (sel : Option Selection) : Exec where
  contingency := k
  detectTime := detect
  startTime := now
  deadline := Time.after detect (counts d.deadline)
  requirement := (x.record.map EvalRec.requirement).getD 0
  mode := x.mode
  entriesLost := 0
  cover := .none
  recheck := false
  exhausted := false
  degraded := degraded
  coldStart := sel.isNone
  tableFull := false
  coverUsed := false
  mandatoryMissing := (sel.map Selection.missing).getD false

/-- The cover request that follows the walk of a start (R104). -/
def State.coverAfterStart (s : State) (sch : Nat) : State :=
  if s.deficit sch = 0 then s else s.requestCover sch

/-- A STARTED answer (R64, R103, R104). -/
def State.startExecution (s : State) (k sch : Nat) (detect : Time) (degraded : Bool) (d : SchemeDef)
    (x : Scheme) : State :=
  let sel := rec? s.engine.published sch
  let e := newExec s.now k detect degraded d x sel
  let s1 := (s.enterExecuting sch x).setExec sch (some e)
  let s2 := (s1.report (s1.startReport sch e sel)).send (.handOffAnswer k sch true)
  ((s2.walkSelection sch d (startEntries d sel)).coverAfterStart sch).judgeEnd sch

def handOff? (sch : Nat) : Msg → Option (Nat × Time × Bool)
  | .handOff k j detect degraded => if j = sch then some (k, detect, degraded) else none
  | _ => none

/-- HAND_OFF (R63, R102 to R104). -/
def execHandOff (sch : Fin 16) (s : State) : Host.Outcome State Fault Refusal :=
  .next (match s.take (schemeLane sch) (handOff? sch) with
    | none => s
    | some ((k, detect, degraded), s1) =>
      match s1.scheme? sch, s1.schemeDef sch with
      | some x, some d =>
        match x.queryAnswer with
        | some reason =>
          (s1.report (s1.notArmedReport k sch detect degraded x.mode reason)).send
            (.handOffAnswer k sch false)
        | none => s1.startExecution k sch detect degraded d x
      | _, _ => s1)

/-! ## Acknowledgements (R108 to R110, R117, R118) -/

/-- The result disagrees with the execution's mode (R109). -/
def mismatches (result : Nat) (m : Mode) : Bool :=
  match m with
  | .service => result == 2
  | .test => result == 1

/-- A live order is confirmed (R109). -/
def State.confirmOrder (s : State) (o : Order) (result : Nat) : State :=
  let s1 := s.withdrawFrames o.serial
  (s1.endOrder o .confirmed (decide (o.state = .rerouted))
    (mismatches result (s.modeOf o.scheme))).judgeEnd o.scheme

/-- A live order fails by refusal (R110). -/
def State.refuseOrder (s : State) (o : Order) : State := (s.withdrawFrames o.serial).failAndFollow o

/-- A FAILED order is confirmed late (R117). -/
def State.confirmLate (s : State) (o : Order) (result : Nat) : State :=
  let mode := s.modeOf o.scheme
  let s1 := s.updateOrder o.serial (Order.finish s.now .confirmed true (mismatches result mode))
  (s1.send (.lateConfirm o.action o.serial mode)).judgeEnd o.scheme

/-- A matched acknowledgement acts by the order's state (R108). -/
def State.takeAck (s : State) (o : Order) (result : Nat) : State :=
  if o.state.isLive then
    if result = 3 then s.refuseOrder o else s.confirmOrder o result
  else if o.state = .final .failed ∧ result ≠ 3 then s.confirmLate o result
  else s

/-- A stray acknowledgement (R118). -/
def State.takeStray (s : State) (site serial output result : Nat) : State :=
  match s.offerStray site serial output result with
  | none => s
  | some (a, s1) =>
    s1.report (mkReport .lateTrip false s1.now a
      [wordOf serial, wordPair site output, wordOf result])

/-- TRIP_ACK_TAKEN (R108). -/
def execTripAckTaken (c : Fin 8) (s : State) : Host.Outcome State Fault Refusal :=
  .next (match s.takeFrame c .dispatcher with
    | none => s
    | some (f, s1) =>
      let site := f.header.address
      match readSiteFrame f.header.kind (bytesToWords f.payload) with
      | some (.tripAck serial output result) =>
        if result = 0 ∨ 3 < result then s1
        else
          match s1.dispatcher.orders.find? (fun o =>
            o.serial == serial && o.site == site && o.output == output) with
          | some o => s1.takeAck o result
          | none => s1.takeStray site serial output result
      | _ => s1)

/-! ## Timeouts and lost attempts (R111 to R113) -/

/-- A running timeout of an order has reached its end. -/
def Order.timedOut (now : Time) (o : Order) : Bool :=
  match o.timeoutEnd with
  | none => false
  | some ends => Time.reached now ends

/-- ORDER_TIMEOUT_ATTEMPT_1 (R111). -/
def execOrderTimeoutAttempt1 (serial : Nat) (s : State) : Host.Outcome State Fault Refusal :=
  .next (match s.order? serial with
    | none => s
    | some o =>
      if o.state = .sent ∧ o.timedOut s.now = true then s.retry o State.failAndFollow else s)

/-- ORDER_TIMEOUT_ATTEMPT_2 (R112). -/
def execOrderTimeoutAttempt2 (serial : Nat) (s : State) : Host.Outcome State Fault Refusal :=
  .next (match s.order? serial with
    | none => s
    | some o =>
      if o.state = .rerouted ∧ o.timedOut s.now = true then s.failAndFollow o else s)

/-- The serials of the live orders whose current attempt is on the channel (R113). -/
def State.liveOn (s : State) (c : Nat) : List Nat :=
  (s.dispatcher.orders.filter (fun o => o.channel == c && o.state.isLive)).map Order.serial

/-- One affected order of a loss notice (R113). -/
def State.loseAttempt (s : State) (serial : Nat) : State :=
  match s.order? serial with
  | none => s
  | some o => s.attemptLost o

def loss? (c : Nat) : Msg → Option LossCause
  | .loss d cause => if d = c then some cause else none
  | _ => none

/-- ATTEMPT_LOST (R113): the live orders on the channel are taken in creation order (log 62: DESIGN CHOICE). -/
def execAttemptLost (c : Fin 8) (s : State) : Host.Outcome State Fault Refusal :=
  .next (match s.take (fun m => (loss? c m).isSome) (loss? c) with
    | none => s
    | some (_, s1) => (s1.liveOn c).foldl State.loseAttempt s1)

/-! ## Cover (R115, R116) -/

/-- The Engine's messages about one execution's cover, taken in the order sent (log 3). -/
def handoverLane (sch : Nat) : Msg → Bool
  | .coverStarted i => i == sch
  | .coverHandover i _ => i == sch
  | _ => false

def coverStarted? (sch : Nat) : Msg → Option Unit
  | .coverStarted i => if i = sch then some () else none
  | _ => none

/-- COVER_SCAN_STARTED (R115). -/
def execCoverScanStarted (sch : Fin 16) (s : State) : Host.Outcome State Fault Refusal :=
  .next (match s.take (handoverLane sch) (coverStarted? sch) with
    | none => s
    | some (_, s1) => s1.updateExec sch (fun x => { x with cover := .running }))

/-- One entry of a hand-over walk (R115): left unused once the requirement is met. -/
def State.coverEntry (sch : Nat) (s : State) (e : SelEntry) : State :=
  if s.deficit sch = 0 then s
  else
    let s1 := s.walkEntry sch .cover e
    if s.dispatcher.orders.length < s1.dispatcher.orders.length then
      s1.updateExec sch (fun x => { x with coverUsed := true })
    else s1

/-- What follows a hand-over walk (R116). `created` says that the walk created an order. -/
def State.afterHandover (s : State) (sch : Nat) (created : Bool) : State :=
  let recheck := ((s.exec? sch).map Exec.recheck).getD false
  if s.deficit sch = 0 then s.updateExec sch (fun x => { x with recheck := false })
  else if created || recheck then s.requestCover sch
  else s.updateExec sch (fun x => { x with exhausted := true, recheck := false })

def coverHandover? (sch : Nat) : Msg → Option (List SelEntry)
  | .coverHandover i list => if i = sch then some list else none
  | _ => none

/-- COVER_HANDOVER (R115, R116). -/
def execCoverHandover (sch : Fin 16) (s : State) : Host.Outcome State Fault Refusal :=
  .next (match s.take (handoverLane sch) (coverHandover? sch) with
    | none => s
    | some (list, s1) =>
      match s1.exec? sch with
      | none => s1
      | some _ =>
        let s2 := s1.updateExec sch (fun x => { x with cover := .none })
        let s3 := list.foldl (State.coverEntry sch) s2
        (s3.afterHandover sch (decide (s2.dispatcher.orders.length <
          s3.dispatcher.orders.length))).judgeEnd sch)

/-! ## The deadline (R120) -/

/-- The frame of an order's attempt 1 is being transmitted. -/
def State.isSending (s : State) (o : Order) : Bool :=
  match (s.channel o.channel).tx with
  | some ⟨.trip _ serial _ _ attempt _, _, _⟩ => serial == o.serial && attempt == o.attempt
  | _ => false

/-- One order at the deadline (R120). A QUEUED order without a frame in transmission is WITHDRAWN (log
27). -/
def State.expireOrder (s : State) (o : Order) : State :=
  match o.state with
  | .queued =>
    if s.isSending o then s.endOrder o .expired o.late o.mismatch
    else (s.withdrawFrames o.serial).endOrder o .withdrawn o.late o.mismatch
  | .sent => s.endOrder o .expired o.late o.mismatch
  | .rerouted => (s.withdrawFrames o.serial).endOrder o .expired o.late o.mismatch
  | .final _ => s

/-- The messages of an execution's cover that a cancel takes back (R94, R120). -/
def coverMessage (sch : Nat) : Msg → Bool
  | .coverReq i _ => i == sch
  | .coverStarted i => i == sch
  | .coverHandover i _ => i == sch
  | _ => false

/-- Cover REQUESTED or RUNNING is cancelled (R94, R120). -/
def State.cancelCover (s : State) (sch : Nat) : State :=
  match (s.exec? sch).map Exec.cover with
  | none => s
  | some .none => s
  | some .requested => (s.withdraw (coverMessage sch)).send (.coverCancel sch)
  | some .running => (s.withdraw (coverMessage sch)).send (.coverCancel sch)

/-- EXECUTION_DEADLINE (R120): the orders are taken in creation order (log 62: DESIGN CHOICE). -/
def execExecutionDeadline (sch : Fin 16) (s : State) : Host.Outcome State Fault Refusal :=
  .next (match s.exec? sch with
    | none => s
    | some x =>
      if Time.reached s.now x.deadline then
        (((s.ordersOf sch).foldl State.expireOrder s).cancelCover sch).endExecution sch x .expired
      else s)

end Sys2Proof.Machine
end

