-- ==== Sys2Proof/Machine/Restart.lean ====
section
/-! DEFINITION. Power-on reset (R155) and the engine restart (R181) with every block's restart rule. -/

namespace Sys2Proof.Machine

/-- POWER_ON_RESET (R155, R171, R183): every block takes its power-on state; the commands that wait stand
outside the part. -/
def execPowerOnReset (straps : BitVec 2) (s : State) : Host.Outcome State Fault Refusal :=
  .next { State.powerOn straps with pending := s.pending }

/-! ## The blocks' restart rules -/

/-- Messages that a restart takes back (log 13): those about freezes, detections, executions, cover,
preparation, losses and live orders, which the restart rules put aside. A late confirmation notice stands, and
makes its action TRIPPED when it is taken after the restart (R125). -/
def dropsAtRestart : Msg → Bool
  | .loss _ _ => true
  | .liveOrder _ _ => true
  | .freezeReq _ => true
  | .freezeRel _ => true
  | .pendingNote _ => true
  | .firstEvidence _ => true
  | .quiescence => true
  | .handOff _ _ _ _ => true
  | .handOffAnswer _ _ _ => true
  | .execEnd _ _ => true
  | .schemeEnd _ _ => true
  | .freezeNote _ => true
  | .freezeRelNote _ => true
  | .shadowRequeue _ => true
  | .shadowComplete => true
  | .coverReq _ _ => true
  | .coverCancel _ => true
  | .coverStarted _ => true
  | .coverHandover _ _ => true
  | _ => false

/-- Bank Store (R169). -/
def State.restartBanks (s : State) : State := if s.isLocked then s.cancelSwitch 2 else s

/-- Contingency Detector (R37): every defined contingency is CLEAR, and the Evaluator is told that none is
PENDING. -/
def State.restartDetector (s : State) : State :=
  { s with
    detector := s.detector.map (Option.map (fun k => Contingency.cleared k.terms.length))
    evaluator := { s.evaluator with anyPending := false } }

/-- Executions that a restart abandons (R125). -/
def State.execCount (s : State) : Nat := (s.dispatcher.execs.toList.filter Option.isSome).length

/-- Live orders that a restart abandons (R125). -/
def State.liveCount (s : State) : Nat :=
  (s.dispatcher.orders.filter (fun o => o.state.isLive)).length

/-- Trip Dispatcher (R125). -/
def State.restartDispatcher (s : State) : State :=
  let s1 := s.report (mkReport .engineRestart false s.now 0 [wordOf s.execCount, wordOf s.liveCount])
  { s1 with dispatcher := { s1.dispatcher with execs := Vector.replicate 16 none, orders := [] } }

/-- An action at a restart (R98). -/
def Action.restart (now : Time) (x : Action) : Action :=
  if x.avail = .committed then
    { x with avail := .blocked, blockCause := some .restart, committing := none, stateTime := now }
  else x

/-- Action Pool (R98), with the rescan requests of R84. -/
def State.restartPool (s : State) : State :=
  ({ s with pool := { s.pool with
      actions := s.pool.actions.map (Option.map (Action.restart s.now)) } }).poolChanged s.pool.actions

/-- Selection Engine and arm images (R98). -/
def State.restartEngine (s : State) : State :=
  let e := s.engine
  (s.setEngine { e with
    known := e.known.map (fun v => { v with frozen := false })
    held := Vector.replicate 16 false
    cover := []
    queue := []
    running := none
    suspended := none
    published := Vector.replicate 16 none
    shadow := Vector.replicate 16 none }).refreshImages

/-- One scheme at a restart (R51, R73). The alert is recomputed after the last of them. -/
def State.restartScheme (s : State) (i : Nat) : State :=
  match s.scheme? i, s.schemeDef i with
  | some x, some d =>
    let base := { x with frozen := false, dwell := none, preExec := none }
    if x.arm = .latched ∨ x.enable = false then s.setScheme i base
    else
      let r := evaluate d s.liveView s.now
      let j := judgeDisarmed d s.now r.q
      let s1 := s.writeScheme i x { base with record := some r, arm := j.arm, dwell := j.dwell } .restart
      if j.entered then s1.send (.rescan i .evaluator) else s1
  | _, _ => s

/-- Arming Evaluator (R51, R71, R73): the schemes by ascending number (log 54: DESIGN CHOICE). -/
def State.restartEvaluator (s : State) : State :=
  ((List.range 16).foldl State.restartScheme s).refreshAlert

/-- Waiting TRIP frames removed from every queue, live order counts 0 (R152). -/
def State.clearTrips (s : State) : State :=
  { s with units := { s.units with
      channels := s.units.channels.map (fun ch =>
        { ch with queue := ch.queue.filter (fun f => !f.isTrip) })
      sites := s.units.sites.map (fun x => { x with liveOrders := 0 }) } }

/-- A site whose route is ALTERNATE is judged once for the revert (R152). -/
def State.judgeRevert (s : State) (site : Nat) : State :=
  match (s.site site).route with
  | .alternate _ => s.judgeRoute site false
  | .primary _ => s
  | .none => s

/-- Channel Units (R152): the sites by ascending number (log 63: DESIGN CHOICE). -/
def State.restartUnits (s : State) : State := (List.range 16).foldl State.judgeRevert s.clearTrips

/-- Every block applies its restart rule (R181). The order of the blocks is the model's where R51 and R98 leave it open
(log 64: DESIGN CHOICE). -/
def State.restart (s : State) : State :=
  let run : RestartRun := ⟨s.execCount, s.liveCount⟩
  let s1 := (s.withdraw dropsAtRestart).restartBanks.restartDetector
  let s2 := s1.restartDispatcher.restartPool.restartUnits
  let s3 := s2.restartEngine.restartEvaluator
  { s3 with port := { s3.port with restart := some run } }

/-- ENGINE_RESTART (R181): the request is held until RESTART_COMPLETE. -/
def execEngineRestart (s : State) : Host.Outcome State Fault Refusal :=
  .next (match s.nextRequest 0x32 with
    | none => s
    | some r => if r.words.isEmpty then s.hold.restart else s.replyTo r .badFrame [])

/-- RESTART_COMPLETE (R181): the DONE reply with the abandoned counts and the time. -/
def execRestartComplete (s : State) : Host.Outcome State Fault Refusal :=
  .next (match s.port.restart with
    | none => s
    | some r =>
      ({ s with port := { s.port with restart := none } }).completeRunning .none
        ([wordOf r.execs, wordOf r.orders] ++ wordsTime s.now))

end Sys2Proof.Machine
end

