-- ==== Sys2Proof/Machine/Status.lean ====
section
/-! DEFINITION. STATUS_GET (R179) and the replies of its subjects. R195 gives one word for each item a rule
lists, two for a time; log 8 says how the items are laid out where no rule does. -/

namespace Sys2Proof.Machine

/-! ## Words of items (R194, R195; log 8) -/

/-- An item that may be absent. -/
def optWord {α : Type} (f : α → Word) : Option α → Word
  | none => wordAbsent
  | some x => f x

/-- A time that may be absent: two words, both FFFFh when it is (log 8: DEDUCED). -/
def optTime : Option Time → List Word
  | none => [wordAbsent, wordAbsent]
  | some t => wordsTime t

/-- A time of a reply that leaves out what is not present (R36; log 8). -/
def presentTime (t : Option Time) : List Word := (t.map wordsTime).getD []

/-- ON 1, OFF 2 (R194). -/
def enableCode (b : Bool) : Nat := if b then 1 else 2

/-- Time that remains to an end, 0 once it is reached. -/
def remainingWord (now ends : Time) : Word := wordOf (Time.left now ends)

/-- A STATUS_GET request of one subject: its index is tested against `last`, then its definition (R179). -/
def State.statusGet (s : State) (code last : Nat) (present : Nat → Bool) (content : Nat → List Word) :
    State :=
  s.carryOut 0x2E (controlIs hi code 10) (isLength 1) (fun ws s' =>
    let w := wordAt ws 0
    if hi w = 0 ∨ 10 < hi w then .refuse .outOfRange s'
    else if last < lo w then .refuse .outOfRange s'
    else if present (lo w) then .done (content (lo w)) s'
    else .refuse .noItem s')

/-- Subjects without an index: the index field is ignored (R179). -/
def State.statusGetAll (s : State) (code : Nat) (content : List Word) : State :=
  s.statusGet code 255 (fun _ => true) (fun _ => content)

/-! ## Scheme (R53, R75) -/

def dwellKindCode : DwellKind → Nat
  | .arm => 1
  | .disarm => 2

/-- Kind, RUNNING 1 or STOPPED 2, remaining time: three words, each FFFFh without a dwell (log 8: DEDUCED). -/
def dwellWords (now : Time) : Option Dwell → List Word
  | none => [wordAbsent, wordAbsent, wordAbsent]
  | some ⟨k, .running ends⟩ => [wordOf (dwellKindCode k), 1, remainingWord now ends]
  | some ⟨k, .stopped n⟩ => [wordOf (dwellKindCode k), 2, wordOf n]

/-- The pre-execution state: ARMED 1, DISARMING 2 with its remaining time, in two words, both FFFFh when it is absent
(log 60: DEDUCED). -/
def preExecWords : Option PreExec → List Word
  | none => [wordAbsent, wordAbsent]
  | some .armed => [1, wordAbsent]
  | some (.disarming n) => [2, wordOf n]

/-- BELOW 1, ABOVE 2, a segment 3 with its number in the high byte (R195; log 8). -/
def positionWord : CurvePos → Word
  | .below => wordPair 0 1
  | .above => wordPair 0 2
  | .segment k => wordPair k 3

/-- One input: point, weight, value taken, quality, all of them absent without an evaluation record (R53; log 50). -/
def inputWords (i : InputDef) : Option InputTaken → List Word
  | none => [wordAbsent, wordAbsent, wordAbsent, wordAbsent]
  | some t => [wordOf i.point, wordSigned i.weight, wordSigned t.value, wordOf (qualityCode t.quality)]

/-- The evaluation record (R53). -/
def evalWords (d : SchemeDef) (r : Option EvalRec) : List Word :=
  d.inputs.zipIdx.flatMap (fun p => inputWords p.1 (r.bind (fun x => x.inputs[p.2]?))) ++
    [optWord (fun x => wordSigned x.q) r, optWord (fun x => positionWord x.position) r,
      optWord (fun x => wordOf (curveAt d.curve x.q).2) r, optWord (fun x => wordOf x.requirement) r,
      optWord (fun x => wordFlag x.degraded) r] ++ optTime (r.map EvalRec.time)

/-- The reply of subject scheme (R75): the definition as a configuration record of section 11.3 (log 68: DEDUCED), then
the live fields. -/
def State.schemeWordsOf (s : State) (i : Nat) : List Word :=
  match s.schemeDef i, s.scheme? i with
  | some d, some x =>
    recordForm s.banks.active .scheme i ++
      [wordOf (enableCode x.enable), wordFlag x.blocked, wordOf (modeCode x.mode),
        wordOf (armCode x.arm), wordFlag x.frozen, wordFlag (decide (x.arm = .executing))] ++
      dwellWords s.now x.dwell ++ preExecWords x.preExec ++ wordsTime x.stateTime ++
      evalWords d x.record ++ [wordFlag s.evaluator.alert]
  | _, _ => []

/-- STATUS_GET_SCHEME (R53, R75). -/
def execStatusGetScheme (s : State) : Host.Outcome State Fault Refusal :=
  .next (s.statusGet 1 15 (fun i => (s.schemeDef i).isSome) s.schemeWordsOf)

/-! ## Selection (R100) -/

def terminationCode : Termination → Nat
  | .sufficient => 1
  | .exhausted => 2
  | .full => 3

/-- The published selection, or the mark never published (R100), one word FFFFh (log 8: DEDUCED). -/
def selectionWords : Option Selection → List Word
  | none => [wordAbsent]
  | some x =>
    wordOf x.entries.length :: x.entries.flatMap (fun e => [wordOf e.action, wordOf e.credit]) ++
      [wordOf x.sum, wordOf x.requirement, if x.isShort then 2 else 1, wordOf x.deficit,
        wordFlag x.missing, wordOf (terminationCode x.termination)] ++ wordsTime x.scanTime

/-- No routine scan 0, queued 1, running 2, suspended 3 (log 60: DEDUCED). -/
def Engine.scanStatus (e : Engine) (i : Nat) : Nat :=
  if e.runs .routine i then 2
  else if e.suspends .routine i then 3
  else if e.queues .routine i then 1
  else 0

/-- STATUS_GET_SELECTION (R100). -/
def execStatusGetSelection (s : State) : Host.Outcome State Fault Refusal :=
  .next (s.statusGet 2 15 (fun i => (s.schemeDef i).isSome) (fun i =>
    selectionWords (rec? s.engine.published i) ++
      [wordFlag (item s.engine.held i false), wordOf (s.engine.scanStatus i),
        wordOf s.engine.cover.length, wordOf s.engine.queue.length]))

/-! ## Contingency (R36) -/

/-- A flag with the time it was set (Table 2-2). -/
def seenWords (x : Option Time) : List Word := wordFlag x.isSome :: presentTime x

def termRecWords (r : TermRec) : List Word :=
  seenWords r.indicationSeen ++ seenWords r.checkSeen ++ [wordFlag r.satisfied, wordFlag r.degraded]

/-- A flag that is present in HELD only (Table 2-2). -/
def heldFlag (x : Contingency) (b : Bool) : List Word := if x.state = .held then [wordFlag b] else []

/-- The reply of subject contingency: the fields that are present in its state (R36, Table 2-2). No count stands before
the terms, whose number its definition gives (log 57: DEDUCED). -/
def State.contingencyWordsOf (s : State) (k : Nat) : List Word :=
  match s.contingencyDef k, s.contingency? k with
  | some d, some x =>
    wordOf (contingencyStateCode x.state) :: presentTime x.firstEvidence ++ presentTime x.windowEnd ++
      x.terms.flatMap termRecWords ++ presentTime x.detectTime ++ heldFlag x x.degraded ++
      [wordOf x.liveCount] ++ heldFlag x x.clearReady ++
      [wordSet (s.triggered k), wordOf (confirmCode d.mode), wordOf d.window]
  | _, _ => []

/-- STATUS_GET_CONTINGENCY (R36). -/
def execStatusGetContingency (s : State) : Host.Outcome State Fault Refusal :=
  .next (s.statusGet 3 31 (fun k => (s.contingency? k).isSome) s.contingencyWordsOf)

/-! ## Action (R100) -/

def blockCauseCode : BlockCause → Nat
  | .host => 1
  | .restart => 2

/-- The reply of subject action (R100): the definition as a configuration record of section 11.3 (log 68: DEDUCED), then
the dynamic record. -/
def State.actionWordsOf (s : State) (a : Nat) : List Word :=
  match s.action? a with
  | none => []
  | some x =>
    recordForm s.banks.active .action a ++
      [wordOf (availabilityCode x.avail), wordOf x.credit,
        optWord (fun q => wordOf (qualityCode q)) x.mwQuality, optWord wordOf x.lastSerial,
        optWord (fun c => wordOf (blockCauseCode c)) x.blockCause, optWord wordOf x.committing] ++
      wordsTime x.stateTime

/-- STATUS_GET_ACTION (R100). -/
def execStatusGetAction (s : State) : Host.Outcome State Fault Refusal :=
  .next (s.statusGet 4 95 (fun a => (s.actionDef a).isSome) s.actionWordsOf)

/-! ## Point (R18) -/

def originOfCode : Origin → Nat
  | .stale => 1
  | .failed => 2

/-- The dynamic fields of a point in the order of Table 1-1; a status point has no clamped flag. -/
def pointFields {V : Type} (f : V → Word) (clamp : List Word) (p : Point V) : List Word :=
  f p.value :: clamp ++ [wordOf (qualityCode p.quality)] ++ wordsTime p.lastSample ++
    [f p.held, wordOf p.progress, optWord (fun o => wordOf (originOfCode o)) p.origin,
      optWord f p.subst, wordFlag p.neverUpdated]

/-- The reply of subject point (R18). The definition half of Table 1-1 stands as a configuration record of section 11.3,
with its class, index and mark ahead of the fields (log 68: DEDUCED). -/
def State.pointWordsOf (s : State) (index : Nat) : List Word :=
  recordForm s.banks.active .point index ++
    (if index < 64 then
      match rec? s.points.analog index with
      | none => []
      | some p => pointFields wordSigned [wordFlag p.clamped] p
    else
      match rec? s.points.status (index - 64) with
      | none => []
      | some p => pointFields (fun v => wordOf (statusCode v)) [] p)

/-- The active bank defines the point of a POINT class index. -/
def State.isPoint (s : State) (index : Nat) : Bool :=
  if index < 64 then (s.analogDef index).isSome else (s.statusDef (index - 64)).isSome

/-- STATUS_GET_POINT (R18). -/
def execStatusGetPoint (s : State) : Host.Outcome State Fault Refusal :=
  .next (s.statusGet 5 191 s.isPoint s.pointWordsOf)

/-! ## Channels and sites (R100, R154) -/

def cadenceCode : Cadence → Nat
  | .relaxed => 1
  | .brisk _ _ => 2

/-- REACHABLE 1, UNREACHABLE 2, as the replies code them; the SITE_REACHABILITY report has its own code (log 47). -/
def reachCode (b : Bool) : Nat := if b then 1 else 2

/-- One channel of the summary (R154). -/
def channelSummary (x : Channel) : List Word :=
  [wordOf (channelStateCode x.state), wordOf (badCount x.window), wordOf (cadenceCode x.cadence),
    wordOf (x.queue.filter TxFrame.isTrip).length,
    wordOf (x.queue.filter (fun f => !f.isTrip)).length]

/-- A route with its channel in a reply: the channel in the high byte, FFh when there is none; PRIMARY 1,
ALTERNATE 2, NONE 3 in the low byte (Table 7-5, R194, R195; log 8). -/
def routeItem : Route → Word
  | .primary c => wordPair c 1
  | .alternate c => wordPair c 2
  | .none => wordPair 255 3

/-- One site of the summary (R154). -/
def State.siteSummary (s : State) (i : Nat) : List Word :=
  let x := s.site i
  [wordFlag (s.siteDef i).isSome, wordOf (reachCode x.reach), routeItem x.route]

/-- STATUS_GET_CHANNEL_SUMMARY (R154). -/
def execStatusGetChannelSummary (s : State) : Host.Outcome State Fault Refusal :=
  .next (s.statusGetAll 6 ((List.range 8).flatMap (fun c => channelSummary (s.channel c)) ++
    (List.range 16).flatMap s.siteSummary))

/-- NONE 1, QUEUED 2, AWAITING 3. -/
def pollCode : PollState → Nat
  | .none => 1
  | .queued => 2
  | .awaiting _ => 3

/-- One serving channel of a site (R154). -/
def State.linkWords (s : State) (site c : Nat) : List Word :=
  let l := s.link c site
  [wordOf (channelStateCode (s.channel c).state), wordFlag l.reachable, wordOf l.missed,
    wordOf (pollCode l.poll), optWord wordOf l.seqRef]

/-- CONFIRMED 1, AWAITING 2, UNCONFIRMED 3, and in a second word the sends made, absent but in AWAITING (R100;
log 8). -/
def imageStateWords : ImageState → List Word
  | .confirmed => [1, wordAbsent]
  | .awaiting n _ => [2, wordOf n]
  | .unconfirmed => [3, wordAbsent]

/-- The site's arm image: codes, version, confirmation (R100). -/
def imageWords (x : Image) : List Word :=
  wordOf x.codes.length :: x.codes.map wordOf ++ [wordOf x.version.toNat] ++ imageStateWords x.conf

/-- Time that remains to the revert delay (R154). -/
def State.revertLeft (s : State) (since : Time) : Word :=
  remainingWord s.now (Time.after since (revertCounts s.banks.active.params))

/-- The reply of subject site (R100, R154). -/
def State.siteWordsOf (s : State) (i : Nat) : List Word :=
  match s.siteDef i with
  | none => []
  | some d =>
    let x := s.site i
    [wordOf d.primary, optWord wordOf d.alternate, wordOf (reachCode x.reach), routeItem x.route] ++
      optTime x.stableSince ++ [optWord s.revertLeft x.stableSince, wordOf x.liveOrders] ++
      d.channels.flatMap (s.linkWords i) ++ imageWords (s.image i)

/-- STATUS_GET_SITE (R100, R154). -/
def execStatusGetSite (s : State) : Host.Outcome State Fault Refusal :=
  .next (s.statusGet 7 15 (fun i => (s.siteDef i).isSome) s.siteWordsOf)

/-! ## Order table (R127) -/

def coverCode : CoverState → Nat
  | .none => 1
  | .requested => 2
  | .running => 3

/-- One execution record in the order of Table 6-1, with the time that remains (R127). Each of its flags has a word of
its own (log 57: DEDUCED). -/
def State.execWords (s : State) (i : Nat) (x : Exec) : List Word :=
  [wordOf i, wordOf x.contingency] ++ wordsTime x.detectTime ++ wordsTime x.startTime ++
    wordsTime x.deadline ++
    [wordOf x.requirement, wordOf (modeCode x.mode), wordOf (s.ordersOf i).length,
      wordOf (s.standing i), wordOf (s.confirmed i), wordOf x.entriesLost,
      wordOf (coverCode x.cover), wordFlag x.recheck, wordFlag x.exhausted, wordFlag x.degraded,
      wordFlag x.coldStart, wordFlag x.tableFull, wordFlag x.coverUsed, wordFlag x.mandatoryMissing,
      remainingWord s.now x.deadline]

/-- One order in the order of Table 6-2, with the time that remains to a running timeout (R127). Each of its flags has
a word of its own (log 57: DEDUCED). -/
def orderWords (now : Time) (o : Order) : List Word :=
  [wordOf o.serial, wordOf o.action, wordOf o.site, wordOf o.output, wordOf o.credit, wordOf o.scheme,
    wordOf (originCode o.origin), wordOf o.attempt, wordOf o.channel, wordOf o.firstChannel,
    wordOf (orderStateCode o.state)] ++ wordsTime o.creation ++ optTime o.sendTime ++
    optTime o.timeoutEnd ++ optTime o.outcomeTime ++
    [wordFlag o.late, wordFlag o.mismatch, optWord (remainingWord now) o.timeoutEnd]

/-- The reply of subject order table (R127): the execution records by ascending scheme number, then the orders, with no
count before either; the number of orders comes after them (log 57: DEDUCED). -/
def State.orderTableWords (s : State) : List Word :=
  (List.range 16).flatMap (fun i =>
    match s.exec? i with
    | none => []
    | some x => s.execWords i x) ++
  s.dispatcher.orders.flatMap (orderWords s.now) ++
  [wordOf s.dispatcher.orders.length, wordOf s.dispatcher.nextSerial]

/-- STATUS_GET_ORDER_TABLE (R127). -/
def execStatusGetOrderTable (s : State) : Host.Outcome State Fault Refusal :=
  .next (s.statusGetAll 8 s.orderTableWords)

/-! ## Bank status and corridor time (R170, R179) -/

/-- A check value, absent but in SEALED (R170): two words, both FFFFh when it is absent (log 51). -/
def checkValueWords : Option (BitVec 32) → List Word
  | none => [wordAbsent, wordAbsent]
  | some v => checkWords v

/-- The record of the last seal failure (R170): class, index and check code, each FFFFh when it is absent (log 8:
DEDUCED). -/
def failureWords : Option SealFailure → List Word
  | none => [wordAbsent, wordAbsent, wordAbsent]
  | some f => [wordOf (classCode f.cls), wordOf f.index, wordOf (checkCode f.check)]

/-- Staged schemes whose carry outcome is ARMING, ARMED or DISARMING (R170). -/
def State.plannedSchemes (s : State) : List Nat := (List.range 16).filter s.carriesPlan

/-- The shadow selection of a scheme counts as complete in the bank status (R170): made, and none of its shadow work
queued, running, suspended or requeued on its way. R170 and R95 do not say whether an earlier shadow selection counts
while its scan is requeued; the model does not count it (log 67: DESIGN CHOICE). -/
def State.shadowReady (s : State) (i : Nat) : Bool :=
  (rec? s.engine.shadow i).isSome && !s.engine.hasWork .shadow i &&
    !s.inFlight (fun m => decide (m = .shadowRequeue i))

/-- What the switch state adds, left out in the other states (R170; log 8: DEDUCED). -/
def State.switchWords (s : State) : List Word :=
  match s.banks.switch with
  | .idle => []
  | .pending => [wordFlag s.anyExecuting, wordFlag s.anyPending]
  | .preparing =>
    [wordOf s.plannedSchemes.length, wordOf (s.plannedSchemes.filter s.shadowReady).length]

/-- The reply of subject bank status (R170). -/
def State.bankWords (s : State) : List Word :=
  let b := s.banks
  [wordOf (bankStateCode b.active.state), b.active.label] ++ checkValueWords b.active.check ++
    [wordOf (bankStateCode b.staged.state), b.staged.label] ++ checkValueWords b.staged.check ++
    failureWords b.staged.sealFailure ++
    [wordOf (switchCode b.switch), optWord id b.requested] ++ s.switchWords

/-- STATUS_GET_BANK_STATUS (R170). -/
def execStatusGetBankStatus (s : State) : Host.Outcome State Fault Refusal :=
  .next (s.statusGetAll 9 s.bankWords)

/-- STATUS_GET_CORRIDOR_TIME (R179). -/
def execStatusGetCorridorTime (s : State) : Host.Outcome State Fault Refusal :=
  .next (s.statusGetAll 10 (wordsTime s.now))

end Sys2Proof.Machine
end

