-- ==== Sys2Proof/Machine/Dispatch.lean ====
section
/-! DEFINITION. The meaning of every command: one arm per constructor, in the table's order. -/

namespace Sys2Proof.Machine

def exec (i : Instr) (s : State) : Host.Outcome State Fault Refusal :=
  match i with
  | .powerOnReset straps => Sys2Proof.Machine.execPowerOnReset straps s
  | .headerDecode rx bytes => Sys2Proof.Machine.execHeaderDecode rx bytes s
  | .hostRequestArrival payload crc => Sys2Proof.Machine.execHostRequestArrival payload crc s
  | .hostByteGap => Sys2Proof.Machine.execHostByteGap s
  | .replyTransmitted => Sys2Proof.Machine.execReplyTransmitted s
  | .refusalTransmitted => Sys2Proof.Machine.execRefusalTransmitted s
  | .ident => Sys2Proof.Machine.execIdent s
  | .stageOpen => Sys2Proof.Machine.execStageOpen s
  | .stageWrite => Sys2Proof.Machine.execStageWrite s
  | .stageSeal => Sys2Proof.Machine.execStageSeal s
  | .bankSwitch => Sys2Proof.Machine.execBankSwitch s
  | .bankCancel => Sys2Proof.Machine.execBankCancel s
  | .bankRead => Sys2Proof.Machine.execBankRead s
  | .schemeSetEnable => Sys2Proof.Machine.execSchemeSetEnable s
  | .schemeSetDisable => Sys2Proof.Machine.execSchemeSetDisable s
  | .schemeSetBlock => Sys2Proof.Machine.execSchemeSetBlock s
  | .schemeSetUnblock => Sys2Proof.Machine.execSchemeSetUnblock s
  | .schemeSetService => Sys2Proof.Machine.execSchemeSetService s
  | .schemeSetTest => Sys2Proof.Machine.execSchemeSetTest s
  | .schemeReset => Sys2Proof.Machine.execSchemeReset s
  | .contingencyReset => Sys2Proof.Machine.execContingencyReset s
  | .actionSetBlock => Sys2Proof.Machine.execActionSetBlock s
  | .actionSetRestore => Sys2Proof.Machine.execActionSetRestore s
  | .pointPut => Sys2Proof.Machine.execPointPut s
  | .pointSubst => Sys2Proof.Machine.execPointSubst s
  | .pointRelease => Sys2Proof.Machine.execPointRelease s
  | .statusGetScheme => Sys2Proof.Machine.execStatusGetScheme s
  | .statusGetSelection => Sys2Proof.Machine.execStatusGetSelection s
  | .statusGetContingency => Sys2Proof.Machine.execStatusGetContingency s
  | .statusGetAction => Sys2Proof.Machine.execStatusGetAction s
  | .statusGetPoint => Sys2Proof.Machine.execStatusGetPoint s
  | .statusGetChannelSummary => Sys2Proof.Machine.execStatusGetChannelSummary s
  | .statusGetSite => Sys2Proof.Machine.execStatusGetSite s
  | .statusGetOrderTable => Sys2Proof.Machine.execStatusGetOrderTable s
  | .statusGetBankStatus => Sys2Proof.Machine.execStatusGetBankStatus s
  | .statusGetCorridorTime => Sys2Proof.Machine.execStatusGetCorridorTime s
  | .reportFetch => Sys2Proof.Machine.execReportFetch s
  | .channelSetEnable => Sys2Proof.Machine.execChannelSetEnable s
  | .channelSetDisable => Sys2Proof.Machine.execChannelSetDisable s
  | .channelSetLoopback => Sys2Proof.Machine.execChannelSetLoopback s
  | .channelSetNormal => Sys2Proof.Machine.execChannelSetNormal s
  | .channelSetReset => Sys2Proof.Machine.execChannelSetReset s
  | .channelProbe => Sys2Proof.Machine.execChannelProbe s
  | .engineRestart => Sys2Proof.Machine.execEngineRestart s
  | .restartComplete => Sys2Proof.Machine.execRestartComplete s
  | .channelFrameComplete c payload crc => Sys2Proof.Machine.execChannelFrameComplete c payload crc s
  | .receiveBufferCheck c => Sys2Proof.Machine.execReceiveBufferCheck c s
  | .siteSamplesTaken c => Sys2Proof.Machine.execSiteSamplesTaken c s
  | .pollAnswer c => Sys2Proof.Machine.execPollAnswer c s
  | .indicationTaken c => Sys2Proof.Machine.execIndicationTaken c s
  | .tripAckTaken c => Sys2Proof.Machine.execTripAckTaken c s
  | .armAckTaken c => Sys2Proof.Machine.execArmAckTaken c s
  | .transmissionEnd c => Sys2Proof.Machine.execTransmissionEnd c s
  | .pollDue c => Sys2Proof.Machine.execPollDue c s
  | .pollCycleStart c => Sys2Proof.Machine.execPollCycleStart c s
  | .pollReplyTimeout c site => Sys2Proof.Machine.execPollReplyTimeout c site s
  | .lossTimeExpiry c => Sys2Proof.Machine.execLossTimeExpiry c s
  | .corridorAlertDelivery c => Sys2Proof.Machine.execCorridorAlertDelivery c s
  | .settleTimeExpiry c => Sys2Proof.Machine.execSettleTimeExpiry c s
  | .revertDelayExpiry site => Sys2Proof.Machine.execRevertDelayExpiry site s
  | .liveOrderNotice site => Sys2Proof.Machine.execLiveOrderNotice site s
  | .probeTimeout c => Sys2Proof.Machine.execProbeTimeout c s
  | .pointsSiteReachability site => Sys2Proof.Machine.execPointsSiteReachability site s
  | .actionSiteReachability site => Sys2Proof.Machine.execActionSiteReachability site s
  | .stalenessExpiry p => Sys2Proof.Machine.execStalenessExpiry p s
  | .failureLimitExpiry p => Sys2Proof.Machine.execFailureLimitExpiry p s
  | .schemeChangeNotices k => Sys2Proof.Machine.execSchemeChangeNotices k s
  | .actionChangeNotices => Sys2Proof.Machine.execActionChangeNotices s
  | .checkPointMessages => Sys2Proof.Machine.execCheckPointMessages s
  | .windowExpiry k => Sys2Proof.Machine.execWindowExpiry k s
  | .freezeRequest sch => Sys2Proof.Machine.execFreezeRequest sch s
  | .freezeRelease sch => Sys2Proof.Machine.execFreezeRelease sch s
  | .pendingNotice => Sys2Proof.Machine.execPendingNotice s
  | .firstEvidenceNotice k => Sys2Proof.Machine.execFirstEvidenceNotice k s
  | .quiescenceNotice => Sys2Proof.Machine.execQuiescenceNotice s
  | .handOff sch => Sys2Proof.Machine.execHandOff sch s
  | .handOffAnswer sch => Sys2Proof.Machine.execHandOffAnswer sch s
  | .executionEndNotice sch => Sys2Proof.Machine.execExecutionEndNotice sch s
  | .serviceExecutionEnd sch => Sys2Proof.Machine.execServiceExecutionEnd sch s
  | .testExecutionEnd sch => Sys2Proof.Machine.execTestExecutionEnd sch s
  | .armDwellExpiry sch => Sys2Proof.Machine.execArmDwellExpiry sch s
  | .disarmDwellExpiry sch => Sys2Proof.Machine.execDisarmDwellExpiry sch s
  | .schemeStateNotice sch => Sys2Proof.Machine.execSchemeStateNotice sch s
  | .freezeNotice sch => Sys2Proof.Machine.execFreezeNotice sch s
  | .freezeReleaseNotice sch => Sys2Proof.Machine.execFreezeReleaseNotice sch s
  | .rescanRequest sch src => Sys2Proof.Machine.execRescanRequest sch src s
  | .routineScanStep => Sys2Proof.Machine.execRoutineScanStep s
  | .shadowScanStep => Sys2Proof.Machine.execShadowScanStep s
  | .shadowRequeue sch => Sys2Proof.Machine.execShadowRequeue sch s
  | .coverRequest sch => Sys2Proof.Machine.execCoverRequest sch s
  | .coverScanStep => Sys2Proof.Machine.execCoverScanStep s
  | .coverCancel sch => Sys2Proof.Machine.execCoverCancel sch s
  | .coverScanStarted sch => Sys2Proof.Machine.execCoverScanStarted sch s
  | .coverHandover sch => Sys2Proof.Machine.execCoverHandover sch s
  | .shadowCompleteNotice => Sys2Proof.Machine.execShadowCompleteNotice s
  | .outcomeNotice a serial outcome mode => Sys2Proof.Machine.execOutcomeNotice a serial outcome mode s
  | .lateConfirmationNotice a => Sys2Proof.Machine.execLateConfirmationNotice a s
  | .orderTimeoutAttempt1 serial => Sys2Proof.Machine.execOrderTimeoutAttempt1 serial s
  | .orderTimeoutAttempt2 serial => Sys2Proof.Machine.execOrderTimeoutAttempt2 serial s
  | .attemptLost c => Sys2Proof.Machine.execAttemptLost c s
  | .executionDeadline sch => Sys2Proof.Machine.execExecutionDeadline sch s
  | .armImageReplyTimeout site => Sys2Proof.Machine.execArmImageReplyTimeout site s
  | .delimiterFound rx bytes => Sys2Proof.Machine.execDelimiterFound rx bytes s

end Sys2Proof.Machine
end

