-- ==== Sys2Proof/Machine/Step.lean ====
section
/-! DEFINITION. One step: the command at the front of the queue, or a count of corridor time. -/

namespace Sys2Proof.Machine

/-- One step: the command at the front of the queue acts on the state with the queue's rest; on an empty
queue corridor time counts on by 0.1 ms (DESIGN CHOICE, log 1). -/
def step (s : State) : Host.Outcome State Fault Refusal :=
  match s.pending with
  | [] => .next s.tick
  | c :: rest => exec c { s with pending := rest }

/-- The state with the command that a word spells put at the front of its queue; unchanged where the word
spells none (no row of the table has bits). -/
def State.withFetchWord (s : State) (nbits w : Nat) : State :=
  match decodeTableWord nbits w with
  | none => s
  | some c => { s with pending := c :: s.pending }

end Sys2Proof.Machine
end

