-- ==== Sys2Proof/Safety.lean ====
section
/-! DEFINITION. What statements about the part are made of: the parts of the state and which of them a
command may change, the request that is carried out next, and the invariants of each block. -/

namespace Sys2Proof.Machine

/-! ## Parts of the state -/

/-- A part of the state that a command changes or leaves. -/
inductive Part where
  | time
  | activeBank
  | stagedBank
  | switch
  | preparation
  | points
  | contingencies
  | schemes
  | alert
  | actions
  | engineWork
  | selections
  | images
  | executions
  | orders
  | channels
  | sites
  | links
  | straps
  | hostReceiver
  | requests
  | reports
  | messages
  | commands
deriving DecidableEq, Repr

/-- The two states agree on a part. -/
def Part.same (p : Part) (s t : State) : Prop :=
  match p with
  | .time => t.now = s.now
  | .activeBank => t.banks.active = s.banks.active
  | .stagedBank => t.banks.staged = s.banks.staged
  | .switch => t.banks.switch = s.banks.switch ∧ t.banks.requested = s.banks.requested
  | .preparation =>
    t.banks.carry = s.banks.carry ∧ t.evaluator.prepared = s.evaluator.prepared ∧
      t.pool.staged = s.pool.staged ∧ t.engine.shadow = s.engine.shadow ∧ t.views = s.views
  | .points => t.points = s.points
  | .contingencies => t.detector = s.detector
  | .schemes => t.evaluator.schemes = s.evaluator.schemes
  | .alert =>
    t.evaluator.anyPending = s.evaluator.anyPending ∧ t.evaluator.alert = s.evaluator.alert
  | .actions => t.pool.actions = s.pool.actions ∧ t.pool.siteReach = s.pool.siteReach
  | .engineWork =>
    t.engine.known = s.engine.known ∧ t.engine.held = s.engine.held ∧
      t.engine.cover = s.engine.cover ∧ t.engine.queue = s.engine.queue ∧
      t.engine.running = s.engine.running ∧ t.engine.suspended = s.engine.suspended
  | .selections => t.engine.published = s.engine.published
  | .images => t.engine.images = s.engine.images
  | .executions => t.dispatcher.execs = s.dispatcher.execs
  | .orders =>
    t.dispatcher.orders = s.dispatcher.orders ∧ t.dispatcher.nextSerial = s.dispatcher.nextSerial
  | .channels => t.units.channels = s.units.channels
  | .sites => t.units.sites = s.units.sites
  | .links => t.units.links = s.units.links
  | .straps => t.port.straps = s.port.straps
  | .hostReceiver => t.port.rx = s.port.rx
  | .requests =>
    t.port.requests = s.port.requests ∧ t.port.replies = s.port.replies ∧
      t.port.restart = s.port.restart
  | .reports => t.reports = s.reports
  | .messages => t.inflight = s.inflight
  | .commands => t.pending = s.pending

/-- Of all parts only those of `ps` can differ. -/
def onlyChanges (ps : List Part) (s t : State) : Prop := ∀ p : Part, p ∉ ps → p.same s t

/-- Reports have been offered to the Report Queue one after another, and nothing else has touched it. -/
def reportsOffered (rs : List Report) (s t : State) : Prop :=
  t.reports = rs.foldl ReportQueue.offer s.reports

/-- No message is lost but requeues of shadow scans, which the Engine takes back when it drops the scan. -/
def mailKept (s t : State) : Prop := ∀ m ∈ s.inflight, m.isShadowRequeue = false → m ∈ t.inflight

/-- Of the messages for which `p` holds, those of `ms` have been sent, in this order; no other has been sent, and none
has been taken or withdrawn. -/
def messagesSent (p : Msg → Bool) (ms : List Msg) (s t : State) : Prop :=
  t.inflight.filter p = s.inflight.filter p ++ ms

/-- An alert on its way to a channel (R71). -/
def Msg.isAlert : Msg → Bool
  | .alert _ _ => true
  | _ => false

/-- A scheme-state notice on its way to the Engine (R58). -/
def Msg.isSchemeState : Msg → Bool
  | .schemeState _ _ _ _ => true
  | _ => false

/-- ARM_STATE report of a scheme (R59, Table 11-7): reported states and cause by their codes. -/
def armStateReport (now : Time) (i old cause : Nat) (x : Scheme) : Report :=
  mkReport .armState (decide (x.mode = .test)) now i
    [wordPair old (reportedCode x.reported), wordSigned ((x.record.map EvalRec.q).getD 0),
      wordOf ((x.record.map EvalRec.requirement).getD 0),
      wordPair cause (if (x.record.map EvalRec.degraded).getD false then 1 else 0)]

/-! ## The corridor alert -/

/-- The condition of the corridor alert (R71): a contingency is PENDING, as the Evaluator has been told, or a scheme with
enable ON is ARMING, ARMED, DISARMING or EXECUTING. -/
def State.alertHolds (s : State) : Prop :=
  s.evaluator.anyPending = true ∨ ∃ i x, s.scheme? i = some x ∧ x.enable = true ∧
    (x.arm = .arming ∨ x.arm = .armed ∨ x.arm = .disarming ∨ x.arm = .executing)

/-- The alert has been recomputed once: a change of its value has been sent to the eight channels, and no alert where it
stands (R71). -/
def State.alertFollowed (s t : State) : Prop :=
  (t.evaluator.alert = true ↔ t.alertHolds) ∧
  messagesSent Msg.isAlert (if t.evaluator.alert = s.evaluator.alert then []
    else (List.range 8).map (fun c => .alert c t.evaluator.alert)) s t

/-- The alert has been recomputed, at each of several changes: its value at the end has been sent to the eight channels
where it is not that before them (R71). -/
def State.alertFollowedThrough (s t : State) : Prop :=
  (t.evaluator.alert = true ↔ t.alertHolds) ∧
  (t.evaluator.alert ≠ s.evaluator.alert → ∀ c < 8, .alert c t.evaluator.alert ∈ t.inflight)

/-- The alert that channel `c` holds once it has taken every value on its way to it (R71). -/
def State.alertAt (s : State) (c : Nat) : Bool :=
  ((s.inflight.filterMap (alertFor c)).getLast?).getD (s.channel c).alert

/-- The alert is its condition, and the last value sent to each channel, or else the one it holds, is the alert (R71). -/
def State.AlertSound (s : State) : Prop :=
  (s.evaluator.alert = true ↔ s.alertHolds) ∧ ∀ c < 8, s.alertAt c = s.evaluator.alert

/-! ## The work of the Engine -/

/-- The Engine has gone on from `u` with its next piece of work (R90, R91): it holds what `State.startNext` leaves of its
work, and what that sends is on its way. -/
def State.wentOn (u t : State) : Prop :=
  Part.engineWork.same u.startNext t ∧ ∀ m ∈ u.startNext.inflight, m ∉ u.inflight → m ∈ t.inflight

/-- The Engine without the routine or shadow work for which `gone` holds: entries removed, a running or suspended scan
abandoned (R92, R95). -/
def Engine.without (e : Engine) (gone : PlanKind → Nat → Bool) : Engine :=
  { e with
    queue := e.queue.filter (fun q => !gone q.kind q.scheme)
    running := e.running.filter (fun x => match x with
      | .plan p => !gone p.kind p.scheme
      | .cover _ => true)
    suspended := e.suspended.filter (fun x => !gone x.scan.kind x.scan.scheme) }

/-! ## What follows an event while a switch is PREPARING -/

/-- A message about the preparation of a switch, or of the start of a cover scan. -/
def Msg.ofPreparation : Msg → Bool
  | .shadowRequeue _ => true
  | .shadowComplete => true
  | .coverStarted _ => true
  | _ => false

/-- The state `s` with the points of one event after another, the preparation brought up to date after each (R21, R50,
R95): `State.refreshPreparation` does that while the switch is PREPARING, and else nothing. -/
def State.preparedThrough (s : State) (steps : List PointStore) : State :=
  steps.foldl (fun u new => ({ u with points := new }).refreshPreparation) s

/-- The preparation has followed the events that took the points through `steps`: prepared records, carry outcomes,
staged views, shadow selections, the Engine's work and its messages are what these events leave of them. -/
def State.preparationFollows (s t : State) (steps : List PointStore) : Prop :=
  let u := s.preparedThrough steps
  Part.preparation.same u t ∧ Part.engineWork.same u t ∧
    t.inflight.filter Msg.ofPreparation = u.inflight.filter Msg.ofPreparation

/-- The carry outcome of staged scheme `i` is ARMING, ARMED or DISARMING (R163). -/
def State.plans (s : State) (i : Nat) : Prop :=
  rec? s.banks.carry i ∈ [some (.on .arming), some (.on .armed), some (.on .disarming)]

/-- The shadow work of staged scheme `i` has followed its carry outcome (R163): queued where the outcome moves into the
three states, removed with the shadow selection where it moves out of them; a shadow selection stands otherwise. A
removal that leaves no shadow work tells the Bank Store (R165). -/
def State.shadowFollowed (s t : State) (i : Nat) : Prop :=
  (¬s.plans i → t.plans i → t.engine.hasWork .shadow i = true) ∧
  (s.plans i → ¬t.plans i → rec? t.engine.shadow i = none ∧ t.engine.hasWork .shadow i = false ∧
    (t.shadowDone = true → .shadowComplete ∈ t.inflight)) ∧
  (¬s.plans i ∨ t.plans i → rec? t.engine.shadow i = rec? s.engine.shadow i)

/-- The carry outcome of staged scheme `i` has been determined again from its live state (R50, R163): its prepared
evaluation stands, or is made where there is none and its enable after commit is ON, or is discarded where that is OFF;
a change inside the three states requeues its shadow scan, and where nothing changes nothing is requeued. -/
def State.carryFollowed (s t : State) (i : Nat) : Prop :=
  ∀ d, rec? s.banks.staged.scheme i = some d →
    let live := t.scheme? i
    let made := rec? s.evaluator.prepared i
    let old := rec? s.banks.carry i
    let new := rec? t.banks.carry i
    let requeues (u : State) : Nat := u.inflight.count (.shadowRequeue i)
    (enableAfter d live = false → rec? t.evaluator.prepared i = none ∧ new = some .off) ∧
    (enableAfter d live = true →
      let e := made.getD (evaluate d s.stagedView s.now)
      rec? t.evaluator.prepared i = some e ∧ new = some (carryRule d s.now live e.q).1) ∧
    s.shadowFollowed t i ∧
    (s.plans i → t.plans i → old ≠ new → .shadowRequeue i ∈ t.inflight) ∧
    (s.plans i → ¬t.plans i → requeues t = 0) ∧
    (made.isSome = true → old = new → requeues t = requeues s)

/-- What changes of the arm state, enable, blocked flag or mode of the schemes for which `changed` holds leave of the
preparation (R163): outside PREPARING all of it stands; in PREPARING each of these schemes has its carry outcome
determined again, and everything about any other scheme stands, as do the staged views and the routine work. -/
def State.carriesFollowed (s t : State) (changed : Nat → Prop) : Prop :=
  (s.banks.switch ≠ .preparing → Part.preparation.same s t ∧ Part.engineWork.same s t) ∧
  (s.banks.switch = .preparing →
    (t.views = s.views ∧ t.pool.staged = s.pool.staged ∧ t.engine.known = s.engine.known ∧
      t.engine.held = s.engine.held ∧
      ∀ i, t.engine.hasWork .routine i = s.engine.hasWork .routine i) ∧
    ∀ i < 16, (changed i → s.carryFollowed t i) ∧
      (¬changed i ∨ rec? s.banks.staged.scheme i = none →
        rec? t.banks.carry i = rec? s.banks.carry i ∧
        rec? t.evaluator.prepared i = rec? s.evaluator.prepared i ∧
        rec? t.engine.shadow i = rec? s.engine.shadow i ∧
        t.engine.hasWork .shadow i = s.engine.hasWork .shadow i))

/-- What an event of the Action Pool leaves of the preparation (R95): in PREPARING the staged views of the actions are
brought up to date, with a requeue for each scheme eligible for one that differs; all else of it stands. -/
def State.stagedFollowed (s t : State) : Prop :=
  (t.banks.carry = s.banks.carry ∧ t.evaluator.prepared = s.evaluator.prepared ∧
    t.engine.shadow = s.engine.shadow ∧ t.views = s.views) ∧
  (s.banks.switch ≠ .preparing → t.pool.staged = s.pool.staged) ∧
  (s.banks.switch = .preparing → t.pool.staged = stagedViews t ∧
    ∀ a d i, rec? s.banks.staged.action a = some d → i < 16 → d.eligible.getLsbD i = true →
      stagedDiffers (rec? s.pool.staged a) (t.stagedAction a) = true → .shadowRequeue i ∈ t.inflight)

/-! ## Points -/

/-- The change notice of analog point `a`, which an event leaves as `q` (R16): quality, used value and, under the fail
policy WORST, the policy with lo and hi. -/
def noticeOf (a : Nat) (d : AnalogDef) (q : Point Int) : PointNotice where
  point := a
  quality := q.quality
  used := usedAnalog d q
  worst := if d.policy = .worst then some (d.lo, d.hi) else none

/-- One event has changed analog point `a` from `p` to `q` (R16, R18): the point, its report, and one notice
to each block that uses it; a preparation follows it (R21). -/
def State.analogMoved (s t : State) (a : Nat) (d : AnalogDef) (p q : Point Int) : Prop :=
  t.points = s.points.setAnalog a q ∧
  reportsOffered (if p.quality = q.quality then [] else
    [mkReport .pointQuality false s.now a
      [wordPair (qualityCode p.quality) (qualityCode q.quality), usedWord d q,
        wordOf (policyCode d.policy)]]) s t ∧
  (p.quality ≠ q.quality ∨ usedAnalog d p ≠ usedAnalog d q →
    (s.schemeUses a = true → .schemeChange [noticeOf a d q] ∈ t.inflight) ∧
    (s.actionUses a = true → .actionChange [noticeOf a d q] ∈ t.inflight)) ∧
  s.preparationFollows t [t.points] ∧ mailKept s t

/-- One event has changed status point `a` from `p` to `q` (R17, R18): the point, its report, and the value
transition and quality notice to the Detector, where a contingency uses the point; a preparation follows it (R21). -/
def State.statusMoved (s t : State) (a : Nat) (p q : Point StatusVal) : Prop :=
  t.points = s.points.setStatus a q ∧
  reportsOffered (if p.quality = q.quality then [] else
    [mkReport .pointQuality false s.now (64 + a)
      [wordPair (qualityCode p.quality) (qualityCode q.quality), wordOf (statusCode (usedStatus q)), 0]]) s t ∧
  (s.contingencyUses a = true → p.value ≠ q.value ∨ p.quality ≠ q.quality →
    .checkPoint ((if p.value = q.value then [] else [.transition a p.value q.value p.quality]) ++
      if p.quality = q.quality then [] else [.quality a q.quality q.value (usedStatus q)]) ∈ t.inflight) ∧
  s.preparationFollows t [t.points] ∧ mailKept s t

/-- A change notice or message for check points, which an event of the Point Store sends (R16, R17). -/
def Msg.isPointNotice : Msg → Bool
  | .schemeChange _ => true
  | .actionChange _ => true
  | .checkPoint _ => true
  | _ => false

/-- The POINT_QUALITY reports of one event that takes the points from `old` to `new` (R18), one for each point whose
quality changes, analog points first and each kind by ascending number (log 61: DESIGN CHOICE). -/
def State.eventReports (s : State) (old new : PointStore) : List Report :=
  (List.range 64).filterMap (fun a =>
    match rec? old.analog a, rec? new.analog a, s.analogDef a with
    | some p, some q, some d => if p.quality = q.quality then none else
      some (mkReport .pointQuality false s.now a
        [wordPair (qualityCode p.quality) (qualityCode q.quality), usedWord d q, wordOf (policyCode d.policy)])
    | _, _, _ => none) ++
  (List.range 128).filterMap (fun a =>
    match rec? old.status a, rec? new.status a with
    | some p, some q => if p.quality = q.quality then none else
      some (mkReport .pointQuality false s.now (64 + a)
        [wordPair (qualityCode p.quality) (qualityCode q.quality), wordOf (statusCode (usedStatus q)), 0])
    | _, _ => none)

/-- The messages of one event that takes the points from `old` to `new` (R16, R17): at most one batch to each block
that uses a changed point, with one notice for each change of quality or used value of an analog point, and the
transition, then the quality notice of each status point. -/
def State.eventMessages (s : State) (old new : PointStore) : List Msg :=
  let notices := (List.range 64).filterMap (fun a =>
    match rec? old.analog a, rec? new.analog a, s.analogDef a with
    | some p, some q, some d =>
      if p.quality = q.quality ∧ usedAnalog d p = usedAnalog d q then none
      else some (noticeOf a d q)
    | _, _, _ => none)
  let checks := (List.range 128).flatMap (fun a =>
    match rec? old.status a, rec? new.status a with
    | some p, some q => if s.contingencyUses a = false then [] else
      (if p.value = q.value then [] else [CheckMsg.transition a p.value q.value p.quality]) ++
        if p.quality = q.quality then [] else [CheckMsg.quality a q.quality q.value (usedStatus q)]
    | _, _ => [])
  let schemes := notices.filter (fun n => s.schemeUses n.point)
  let actions := notices.filter (fun n => s.actionUses n.point)
  (if schemes = [] then [] else [.schemeChange schemes]) ++
    (if actions = [] then [] else [.actionChange actions]) ++ if checks = [] then [] else [.checkPoint checks]

/-- Events have taken the points from those of `s` through the points in `steps`, each with its own reports and its
own batches, and nothing else was reported or sent of points (R16 to R18). -/
def State.eventsTold (s t : State) (steps : List PointStore) : Prop :=
  let events := (s.points :: steps).zip steps
  reportsOffered (events.flatMap (fun x => s.eventReports x.1 x.2)) s t ∧
  t.inflight.filter Msg.isPointNotice =
    s.inflight.filter Msg.isPointNotice ++ events.flatMap (fun x => s.eventMessages x.1 x.2)

/-- One expiry has taken one point to STALE or FAILED (R7). -/
def PointStore.expires (old new : PointStore) : Prop :=
  ∃ q ∈ [Quality.stale, .failed],
    (∃ a p, rec? old.analog a = some p ∧
      new = old.setAnalog a { p with quality := q, progress := 0, origin := none }) ∨
    ∃ a p, rec? old.status a = some p ∧
      new = old.setStatus a { p with quality := q, progress := 0, origin := none }

/-- Samples have been taken for the points `named`, numbered as the POINT class (R5, R16 to R18): first the expiries
due for them, each an event of its own, then all samples as one event. A preparation follows each event (R21). -/
def State.samplesTold (s t : State) (named : Nat → Prop) : Prop :=
  ∃ expiries : List PointStore,
    s.eventsTold t (expiries ++ [t.points]) ∧ s.preparationFollows t (expiries ++ [t.points]) ∧
    (∀ x ∈ (s.points :: expiries).zip expiries, x.1.expires x.2) ∧
    let last := expiries.getLastD s.points
    (∀ a d p, rec? s.points.analog a = some p → s.analogDef a = some d →
      (named a → rec? last.analog a = some (p.expire s.now d.staleness)) ∧
      (¬named a → rec? last.analog a = some p)) ∧
    (∀ a d p, rec? s.points.status a = some p → s.statusDef a = some d →
      (named (64 + a) → rec? last.status a = some (p.expire s.now d.staleness)) ∧
      (¬named (64 + a) → rec? last.status a = some p)) ∧
    ((∀ a d p, named a → rec? s.points.analog a = some p → s.analogDef a = some d →
        p.expire s.now d.staleness = p) →
      (∀ a d p, named (64 + a) → rec? s.points.status a = some p → s.statusDef a = some d →
        p.expire s.now d.staleness = p) → expiries = [])

/-! ## Actions -/

/-- One event of the Action Pool has sent one rescan request for each scheme eligible for an action that it changed,
in availability or in credit while AVAILABLE, and no other (R84). -/
def State.rescansSent (s t : State) : Prop :=
  ∀ i < 16,
    let reached := ∃ a d x y, s.actionDef a = some d ∧ d.eligible.getLsbD i = true ∧ s.action? a = some x ∧
      t.action? a = some y ∧ (x.avail ≠ y.avail ∨ y.avail = .available ∧ x.credit ≠ y.credit)
    let sent (u : State) : Nat := u.inflight.count (.rescan i .pool)
    (reached → sent t = sent s + 1) ∧ (¬reached → sent t = sent s)

/-! ## Contingencies -/

/-- Bits `n` to `n + 3` of a report's word are the set of the terms that satisfy `f` (Table 11-7). -/
def termsAtBit (w : Word) (n : Nat) (terms : List TermRec) (f : TermRec → Bool) : Prop :=
  ∀ j < 4, w.getLsbD (n + j) = (terms[j]?.map f).getD false

/-- The word of a CONTINGENCY_DETECTED report with the degraded confirmation flag and the degraded terms: bits 15 and 3
to 0 (Table 11-7). -/
def detectedWord (w : Word) (degraded : Bool) (terms : List TermRec) : Prop :=
  termsAtBit w 0 terms TermRec.degraded ∧ w.getLsbD 15 = degraded ∧ ∀ j, 4 ≤ j → j < 15 → w.getLsbD j = false

/-- The word of a CONTINGENCY_UNCONFIRMED report with the terms satisfied, with indication seen and with check seen:
bits 11 to 8, 7 to 4 and 3 to 0 (Table 11-7). -/
def unconfirmedWord (w : Word) (terms : List TermRec) : Prop :=
  termsAtBit w 8 terms TermRec.satisfied ∧
  termsAtBit w 4 terms (fun r => r.indicationSeen.isSome) ∧
  termsAtBit w 0 terms (fun r => r.checkSeen.isSome) ∧ ∀ j, 12 ≤ j → w.getLsbD j = false

/-- What one event with evidence `e` leaves of a contingency that is PENDING, or CLEAR and reached by it (R25
to R32): the terms recorded, and judged by what of it has an effect; first evidence from CLEAR; detection where
every term is satisfied, with its report (R36). -/
def State.evidenceTaken (s t : State) (k : Nat) (d : ContingencyDef) (x : Contingency)
    (batch : List CheckMsg) (e : Evidence) : Prop :=
  let schemes := s.triggered k
  let pending : Contingency := if x.state = .pending then x else { x with
    state := .pending, firstEvidence := some s.now
    windowEnd := some (s.now + BitVec.ofNat 32 (d.window * 10))
    terms := List.replicate d.terms.length TermRec.empty, requests := schemes }
  let terms := s.judgeTerms d batch (e.news x) (recordEvidence s.now e pending.terms)
  let doubt := terms.any TermRec.degraded
  let held : Contingency := { pending with
    state := .held, windowEnd := none, terms := terms, detectTime := some s.now, degraded := doubt
    liveCount := 0, clearReady := false, awaiting := schemes }
  (x.state = .clear → (∀ i ∈ schemes, .freezeReq i ∈ t.inflight) ∧ .firstEvidence k ∈ t.inflight) ∧
  (terms.all TermRec.satisfied = false → t.contingency? k = some { pending with terms := terms }) ∧
  (terms.all TermRec.satisfied = true → t.contingency? k = some held ∧
    (∀ i ∈ schemes, .handOff k i s.now doubt ∈ t.inflight) ∧
    ∃ before after w, detectedWord w doubt terms ∧
      reportsOffered (before ++ [mkReport .contingencyDetected false s.now k
        [wordOf (s.now - held.firstEvidence.getD s.now).toNat, wordSet schemes, w]] ++ after) s t)

/-- The contingencies whose state one event has moved in a way that `moved` names. -/
def State.contingenciesMoved (s t : State) (moved : ContingencyState → ContingencyState → Bool) : List Nat :=
  (List.range 32).filter (fun k =>
    match s.contingency? k, t.contingency? k with
    | some x, some y => moved x.state y.state
    | _, _ => false)

/-- What an event with evidence has told of PENDING (R29): the Evaluator one note for each entry to PENDING and each
departure from it, the last with what holds after the event; the Bank Store one quiescence notice where a departure
leaves no contingency PENDING and no hand-off awaiting its answer, and else none. Without a window expiry the
departures are detections; a contingency whose every term one event satisfies enters and departs. -/
def State.pendingTold (s t : State) : Prop :=
  let entries := s.contingenciesMoved t (fun x y => decide (x = .clear) && !decide (y = .clear))
  let detections := s.contingenciesMoved t (fun x y => !decide (x = .held) && decide (y = .held))
  let quiet := detections ≠ [] ∧ t.anyPending = false ∧ t.anyAwaiting = false
  (∃ notes : List Bool,
    t.inflight.filterMap pendingNote? = s.inflight.filterMap pendingNote? ++ notes ∧
    notes.length = entries.length + detections.length ∧
    ∀ b, notes.getLast? = some b → b = t.anyPending) ∧
  (quiet → t.inflight.count .quiescence = s.inflight.count .quiescence + 1) ∧
  (¬quiet → t.inflight.count .quiescence = s.inflight.count .quiescence)

/-- A HELD contingency that becomes CLEAR (R34): its hand-offs, freeze requests and count stand. -/
def Contingency.nowClear (x : Contingency) : Contingency :=
  { x with
    state := .clear, firstEvidence := none, windowEnd := none
    terms := List.replicate x.terms.length TermRec.empty, detectTime := none, degraded := false
    clearReady := false }

/-! ## Preparation -/

/-- What the entry to PREPARING leaves (R21, R50, R163): the staged views; each staged scheme's carry outcome, and
its prepared evaluation where its enable after the commit is ON; a SHADOW entry for each scheme whose outcome is
ARMING, ARMED or DISARMING, in ascending order at the tail, the first of them running in an idle Engine. -/
def State.preparationStarted (s t : State) : Prop :=
  t.views = s.stagedPoints ∧ t.pool.staged = stagedViews s ∧
  (∀ i d, rec? s.banks.staged.scheme i = some d → ∃ r, rec? t.banks.carry i = some r ∧
    (enableAfter d (s.scheme? i) = false → r = .off ∧ rec? t.evaluator.prepared i = none) ∧
    (enableAfter d (s.scheme? i) = true →
      let e := evaluate d s.stagedView s.now
      rec? t.evaluator.prepared i = some e ∧ r = (carryRule d s.now (s.scheme? i) e.q).1)) ∧
  let planned := (List.range 16).filter (fun i => ((rec? t.banks.carry i).map Reported.isPlanned).getD false)
  let entries (l : List Nat) : List QueueEntry := l.map (fun i => ⟨.shadow, i⟩)
  (∀ i ∈ planned, t.engine.hasWork .shadow i = true) ∧
  (s.engine.shadowIdle = true →
    (s.engine.running.isSome = true → t.engine.queue = s.engine.queue ++ entries planned) ∧
    (s.engine.running = none → s.engine.cover = [] → s.engine.suspended = none → s.engine.queue = [] →
      t.engine.queue = entries (planned.drop 1) ∧ ∀ i, planned.head? = some i → t.engine.runs .shadow i = true))

/-! ## The commit -/

/-- A point at a commit by the rows of R20, from `p` to `q`, where `old` is its source in the bank that leaves and `new`
its source and staleness limit in the bank that comes. A point kept takes the expiries of R7 that are due under the new
limit; one whose source or slot is changed, or that is new, comes into being as R1 states; one not defined is dropped. -/
def pointCarried {V : Type} (now : Time) (zero : V) (old : Option Source) (new : Option (Source × Nat))
    (p q : Option (Point V)) : Prop :=
  (new = none → q = none) ∧
  ∀ source limit, new = some (source, limit) →
    (old ≠ some source ∨ p = none → q = some {
      value := zero, held := zero, clamped := false, quality := .failed, lastSample := now, progress := 0
      origin := none, subst := none, neverUpdated := true }) ∧
    ∀ x, old = some source → p = some x →
      let age := (now - x.lastSample).toNat
      let runs := x.quality = .good ∨ x.quality = .limited ∨ x.quality = .restoring
      let fallen (quality : Quality) : Option (Point V) :=
        some { x with quality := quality, progress := 0, origin := none }
      (runs ∨ x.quality = .stale → 40 * limit < age → q = fallen .failed) ∧
      (runs → 10 * limit < age → age ≤ 40 * limit → q = fallen .stale) ∧
      (runs → age ≤ 10 * limit → q = some x) ∧
      (x.quality = .stale → age ≤ 40 * limit → q = some x) ∧
      (x.quality = .failed ∨ x.quality = .substituted → q = some x)

/-- A contingency at a commit by the rows of R38, from `x` to `y`, where `d` is its new definition and `ended` how many
of its execution-end notices are on their way. The commit takes these first, so a HELD contingency that is ready to
clear becomes CLEAR where they bring its live execution count to 0 (R34; log 69: DEDUCED); else one that was HELD stays
HELD, with its first-evidence time, detect time and degraded confirmation flag. No contingency is PENDING at a commit. -/
def contingencyCarried (ended : Nat) (d : Option ContingencyDef) (x y : Option Contingency) : Prop :=
  (d = none → y = none) ∧
  ∀ e, d = some e →
    let clear : Contingency := {
      state := .clear, firstEvidence := none, windowEnd := none
      terms := List.replicate e.terms.length TermRec.empty, detectTime := none, degraded := false
      liveCount := 0, clearReady := false, requests := [], awaiting := [] }
    (x = none → y = some clear) ∧
    ∀ k, x = some k →
      let clears := k.clearReady = true ∧ 1 ≤ ended ∧ k.liveCount ≤ ended
      (k.state = .clear → y = some clear) ∧
      (k.state = .held → clears → y = some clear) ∧
      (k.state = .held → ¬clears → y = some { clear with
        state := .held, firstEvidence := k.firstEvidence, detectTime := k.detectTime, degraded := k.degraded })

/-- How many execution-end notices of contingency `k` are on their way to the Detector (R33). -/
def State.endsOnTheWay (s : State) (k : Nat) : Nat := (s.inflight.filterMap endedContingency?).count k

/-- A scheme at a commit (R52, R54, R74), from `x` to `y`, where `d` is its new definition: arm state and dwell by the
seamless carry rule on the prepared Q (R166), the prepared record where enable is ON; a new scheme takes its initial
enable and mode, one defined in both banks keeps enable, blocked flag and mode. The state time stands where the arm state
does (log 52: DEDUCED). -/
def schemeCarried (now : Time) (d : SchemeDef) (prepared : Option EvalRec) (x : Option Scheme) (y : Scheme) :
    Prop :=
  let carried := carryRule d now x ((prepared.map EvalRec.q).getD 0)
  (y.frozen = false ∧ y.preExec = none ∧ y.dwell = carried.2) ∧
  (carried.1 = .off → y.arm = .disarmed) ∧ (∀ a, carried.1 = .on a → y.arm = a) ∧
  y.record = (if y.enable then prepared else none) ∧
  (x = none → y.enable = d.initialEnable ∧ y.mode = d.initialMode ∧ y.blocked = false ∧ y.stateTime = now) ∧
  ∀ z, x = some z → y.enable = z.enable ∧ y.mode = z.mode ∧ y.blocked = z.blocked ∧
    y.stateTime = if y.arm = z.arm then z.stateTime else now

/-- Contingency `k` keeps the part from being quiescent (R165): it is PENDING, has a hand-off awaiting its answer, or
is the trigger of a scheme that is EXECUTING. -/
def State.unsettles (s : State) (k : Nat) : Prop :=
  ∃ x, s.contingency? k = some x ∧ (x.state = .pending ∨ x.awaiting ≠ [] ∨
    ∃ i d y, s.schemeDef i = some d ∧ d.trigger = k ∧ s.scheme? i = some y ∧ y.arm = .executing)

/-- The actions after a commit (R76, R99), where `t` is the part after it. -/
def State.actionsCarried (s t : State) : Prop :=
  (∀ a : Fin 96, rec? s.banks.staged.action a = none → t.action? a = none) ∧
  ∀ (a : Fin 96) (d : ActionDef), rec? s.banks.staged.action a = some d →
    let v := t.mwView d
    let credit := creditOf d v.1 v.2
    let quality := d.namedPoint.map (fun _ => v.2)
    let free := reevaluate d (s.poolReach d.site) quality credit
    ∃ y, t.action? a = some y ∧ y.credit = credit ∧ y.mwQuality = quality ∧ y.committing = none ∧
      (s.action? a = none →
        y.avail = free ∧ y.lastSerial = none ∧ y.blockCause = none ∧ y.stateTime = s.now) ∧
      ∀ x, s.action? a = some x → y.lastSerial = x.lastSerial ∧ y.blockCause = x.blockCause ∧
        y.avail = if x.avail = .blocked ∨ x.avail = .tripped ∨ x.avail = .uncertain then x.avail else free

/-- The channels after a commit (R149, R153): one whose record is unchanged keeps its dynamic
record, but for the pairs of sites that come or go and the poll cycle of a changed served set; another is reset, and
is ACQUIRING or DISABLED by its new record. -/
def State.channelsCarried (s t : State) : Prop :=
  ∀ c : Fin 8,
    let old := rec? s.banks.active.channel c
    let new := rec? s.banks.staged.channel c
    let before := servedIn s.banks.active c
    let after := servedIn s.banks.staged c
    let ch := s.channel c
    let x := t.channel c
    (old = new →
      (x.state = ch.state ∧ x.window = ch.window ∧ x.progress = ch.progress ∧ x.lastGood = ch.lastGood ∧
        x.rx = ch.rx ∧ x.buffers = ch.buffers ∧ x.alert = ch.alert) ∧
      (∀ i, (i ∈ before ↔ i ∈ after) → t.link c i = s.link c i) ∧
      (∀ i < 16, ¬(i ∈ before ↔ i ∈ after) → t.link c i = ⟨false, 0, .none, none⟩) ∧
      (before = after ∨ ch.state.inService = false → x.cadence = ch.cadence ∧ x.cycle = ch.cycle) ∧
      (before ≠ after → ch.state.inService = true →
        let cadence : Cadence := match ch.cadence with
          | .relaxed => .relaxed
          | .brisk start mark => if mark then .relaxed else .brisk start mark
        x.cadence = cadence ∧ x.cycle = some ⟨s.now, 0, t.pollPeriod cadence⟩)) ∧
    (old ≠ new →
      let enabled := (new.map ChannelDef.enabled).getD false
      (x.window = [] ∧ x.progress = 0 ∧ x.buffers = [] ∧ x.probe = none ∧
        ∀ i < 16, t.link c i = ⟨false, 0, .none, none⟩) ∧
      (enabled = true → x.state = .acquiring) ∧ (enabled = false → x.state = .disabled) ∧
      ((∃ f ∈ ch.queue, f.isTrip = true) ∨ s.hasLiveOn c = true → .loss c .reset ∈ t.inflight))

/-- The sites after a commit (R144, R153): reachability with its deliveries; route; no live order. -/
def State.sitesCarried (s t : State) : Prop :=
  ∀ i : Fin 16,
    let old := rec? s.banks.active.site i
    let new := rec? s.banks.staged.site i
    let y := s.site i
    let x := t.site i
    (x.liveOrders = 0 ∧ x.reach = !(t.reachableOn i).isEmpty) ∧
    (y.reach ≠ x.reach → .pointsReach i x.reach ∈ t.inflight ∧ .actionReach i x.reach ∈ t.inflight) ∧
    (new = none → x.route = .none ∧ x.stableSince = none) ∧
    (∀ d, new = some d →
      let rests := ∃ a, y.route = .alternate a ∧ t.sound d.primary i = true ∧ t.usable a i = true
      let since := y.stableSince.getD s.now
      (old ≠ new ∨ ¬rests → x.route = t.preferredRoute i ∧ x.stableSince = none) ∧
      (old = new → rests →
        (revertCounts s.banks.staged.params ≤ (s.now - since).toNat →
          x.route = .primary d.primary ∧ x.stableSince = none) ∧
        ((s.now - since).toNat < revertCounts s.banks.staged.params →
          x.route = y.route ∧ x.stableSince = some since)))

/-- The arm image `i` of a site has been sent, the `n`-th time (R97). Without a route the send is not answered, and the
reply timeout of the site's primary channel runs; on a route's channel its frame waits or is in transmission, and no
timeout runs yet, or it is refused (R138), and the channel's reply timeout runs. -/
def State.imageSent (s t : State) (site n : Nat) (i : Image) : Prop :=
  ∃ ends, t.image site = { i with conf := .awaiting n ends } ∧
    ((s.site site).route = .none → ∀ d, s.siteDef site = some d →
      ends = some (s.now + BitVec.ofNat 32 (s.replyTimeout d.primary))) ∧
    ∀ c, routeChannel (s.site site).route = some c →
      let frame : TxFrame := .armSet site i.version (i.codes.take 32)
      let takes := (s.channel c).state.inService = true ∧ (t.channel c).queue.length < 8
      ends = none ∧ (frame ∈ (t.channel c).queue ∨ (t.channel c).tx.map Sending.frame = some frame) ∨
        ends = some (s.now + BitVec.ofNat 32 (s.replyTimeout c)) ∧ ¬takes

/-- The arm image of site `i` goes out at a commit (R96): the site is new to the active bank, or its codes differ. -/
def State.sendsImageAtCommit (s t : State) (i : Nat) : Bool :=
  (rec? s.banks.staged.site i).isSome &&
    !((rec? s.banks.active.site i).isSome && decide (t.imageCodes i = (s.image i).codes))

/-- The site arm images after a commit (R96, R97): one that goes out takes its codes under the next version and is sent
for the first time. -/
def State.imagesCarried (s t : State) : Prop :=
  ∀ i : Fin 16,
    let old := rec? s.banks.active.site i
    let new := rec? s.banks.staged.site i
    let y := s.image i
    let x := t.image i
    let codes := t.imageCodes i
    (new = none → x.version = y.version ∧ x.codes = if old = none then y.codes else []) ∧
    (new = none → old ≠ none → x.conf = .unconfirmed) ∧
    (new ≠ none → s.sendsImageAtCommit t i = false → x.codes = codes ∧ codes = y.codes ∧
      x.version = y.version) ∧
    (s.sendsImageAtCommit t i = true →
      t.imageSent t i 1 { y with codes := codes, version := y.version + 1 })

/-- The CHANNEL_STATE reports of a commit, with cause COMMIT (8) and bad count 0 (R129, R153). -/
def State.channelReports (s : State) : List Report :=
  (List.range 8).filterMap (fun c =>
    let new := rec? s.banks.staged.channel c
    let enabled := (new.map ChannelDef.enabled).getD false
    let old := (s.channel c).state
    if rec? s.banks.active.channel c = new ∨ enabled = false ∧ old = .disabled then none
    else some (mkReport .channelState false s.now c
      [wordPair (channelStateCode old) (if enabled then 2 else 1), wordPair 0 8]))

/-- The SITE_REACHABILITY and ROUTE_CHANGE reports of a commit (R144, R147, R153). The cause channel of the first is the
model's where both channels go (log 45: DESIGN CHOICE), as is the code 0 of UNREACHABLE (log 47: DEDUCED). -/
def State.siteReports (s t : State) : List Report :=
  (List.range 16).flatMap (fun i =>
    let y := s.site i
    let x := t.site i
    let on := t.reachableOn i
    (if y.reach = x.reach then [] else [mkReport .siteReachability false s.now i
      [wordPair (if x.reach then 1 else 0) ((on ++ s.reachableOn i).headD 0), wordSet on]]) ++
    if y.route = x.route then [] else
      [mkReport .routeChange false s.now i [routeWord y.route, routeWord x.route, wordOf 6]])

/-- The ARM_STATE reports with the code of one cause, one for each scheme whose reported state differs from that before
(R59, R73, R74); a scheme that was not there was OFF. -/
def State.armReports (s t : State) (cause : Nat) : List Report :=
  (List.range 16).filterMap (fun i =>
    (t.scheme? i).bind (fun y =>
      let before := ((s.scheme? i).map Scheme.reported).getD .off
      if before = y.reported then none else some (armStateReport s.now i (reportedCode before) cause y)))

/-- The SELECTION_CHANGE reports of a commit (R88, R99), one for each scheme of the new bank whose set of actions
differs. A scheme never published counts as an empty set, with a requirement and flags that are free values (log 29:
DESIGN CHOICE); one that the commit leaves undefined has no report (log 46: DEDUCED). -/
def State.selectionReports (s t : State) : List Report :=
  (List.range 16).filterMap (fun i =>
    let old := selectionActions (rec? s.engine.published i)
    let new := selectionActions (rec? t.engine.published i)
    if rec? s.banks.staged.scheme i = none ∨ (old.all new.contains && new.all old.contains) = true then none
    else some (mkReport .selectionChange false s.now i (match rec? t.engine.published i with
      | some x => [wordOf x.requirement, wordCapped x.sum,
          wordPair x.entries.length ((if x.sum < x.requirement then 1 else 0) + if x.missing then 2 else 0)]
      | none => [Config.carriedRequirement s.now i, 0, wordPair 0 (Config.carriedStatus s.now i).toNat])))

/-- The TRUNCATED reports (reason 2) of the images that go out at a commit (R96). -/
def State.truncatedAtCommit (s t : State) : List Report :=
  (List.range 16).filterMap (fun i =>
    if s.sendsImageAtCommit t i = true ∧ 32 < (t.imageCodes i).length then
      some (mkReport .armImageUnconfirmed false s.now i [wordPair ((s.image i).version + 1).toNat 2])
    else none)

/-- All reports of a commit, COMMITTED (4) last (R167, R170). The order of the blocks is the model's (log 38: DEDUCED), as
is the ascending order inside each (log 65: DESIGN CHOICE). -/
def State.commitReports (s t : State) : List Report :=
  let check := s.banks.staged.check.getD 0xFFFFFFFF
  s.channelReports ++ s.siteReports t ++ s.armReports t 8 ++ s.selectionReports t ++ s.truncatedAtCommit t ++
    [mkReport .bankEvent false s.now 0 [s.banks.staged.label, s.banks.active.label,
      check.extractLsb' 16 16, check.extractLsb' 0 16, 4]]

/-- The arm images have been recomputed (R96): that of a defined site whose codes differ takes them under the next
version and is sent for the first time; every other one stands. -/
def State.imagesRefreshed (s t : State) : Prop :=
  ∀ site : Fin 16,
    let old := s.image site
    let codes := t.imageCodes site
    ((s.siteDef site).isSome = true → codes ≠ old.codes →
      s.imageSent t site 1 { old with codes := codes, version := old.version + 1 }) ∧
    ((s.siteDef site).isSome = true → codes = old.codes → t.image site = old) ∧
    (s.siteDef site = none → t.image site = old)

/-- The TRUNCATED reports (reason 2) of a recomputation of the arm images, in ascending order of sites (R96, R97; log
63: DESIGN CHOICE). -/
def State.truncatedReports (s t : State) : List Report :=
  (List.range 16).filterMap (fun site =>
    if (s.siteDef site).isSome = true ∧ t.imageCodes site ≠ (s.image site).codes ∧
        32 < (t.imageCodes site).length then
      some (mkReport .armImageUnconfirmed false s.now site [wordPair ((s.image site).version + 1).toNat 2])
    else none)

/-! ## Trip orders -/

/-- Attempt 1 of an order has timed out or is lost (R111, R113): the order is rerouted where the site's other channel
is usable and takes the frame, and else FAILED by `fail`, with or without what follows a failure (R114). -/
def State.attemptFollowed (s t : State) (o : Order) (fail : State → Order → State) : Prop :=
  (s.otherChannel o = none ∨ (∃ c, s.otherChannel o = some c ∧ s.usable c o.site = false) → t = fail s o) ∧
  ∀ c, c < 8 → s.otherChannel o = some c → s.usable c o.site = true →
    let p := { o with
      state := .rerouted, attempt := 2, channel := c, sendTime := none, timeoutEnd := none }
    let frame := s.tripFrame p
    let orders := s.dispatcher.orders.map (fun x => if x.serial = o.serial then p else x)
    let room := (s.channel c).queue.length < 8 ∨ ∃ f ∈ (s.channel c).queue, f.isTrip = false
    (room → t.dispatcher.orders = orders ∧
      (frame ∈ (t.channel c).queue ∨ (t.channel c).tx.map Sending.frame = some frame) ∧
      onlyChanges [.images, .orders, .channels, .links] s t) ∧
    (¬room → t = fail { s with dispatcher := { s.dispatcher with orders := orders } } p)

/-! ## Requests -/

/-- `r` is the request that the port carries out next (R175): the oldest that waits, while none is being
carried out. -/
abbrev State.isNext (s : State) (r : Request) : Prop :=
  s.port.requests.find? (fun x => decide (x.stage = .waiting)) = some r ∧
    ∀ x ∈ s.port.requests, x.stage ≠ .running

/-- `m` is the message that its receiver takes next from a lane. -/
abbrev State.isFirst (s : State) (lane : Msg → Bool) (m : Msg) : Prop := s.inflight.find? lane = some m

/-- The state without the oldest message of a lane. -/
def State.without (s : State) (lane : Msg → Bool) : State := { s with inflight := s.inflight.eraseP lane }

/-- `f` is the frame that completed first of those in a channel's receive buffers, and is owed to the owner, which takes
it next (R130, R136). -/
abbrev State.isDelivered (s : State) (c : Nat) (o : Owner) (f : RxFrame) : Prop :=
  (s.channel c).buffers.head? = some f ∧ f.owedTo o = true

/-- `t` is `s` after an owner has taken the frame `f`: only the receive buffers of the channel can differ (R136). -/
def State.frameTaken (s : State) (c : Nat) (o : Owner) (f : RxFrame) (t : State) : Prop :=
  s.takeFrame c o = some (f, t) ∧ ∃ buffers, t = s.setChannel c { s.channel c with buffers := buffers }

/-! ## Rows of the host's requests -/

/-- A subject of STATUS_GET: its command, its code, its largest index, the items it has, what it answers. -/
structure StatusRow where
  command : Instr
  code : Nat
  last : Nat
  present : State → Nat → Bool
  content : State → Nat → List Word

/-- What STATUS_GET_SELECTION answers (R100). -/
def State.selectionWordsOf (s : State) (i : Nat) : List Word :=
  selectionWords (rec? s.engine.published i) ++
    [wordFlag (item s.engine.held i false), wordOf (s.engine.scanStatus i),
      wordOf s.engine.cover.length, wordOf s.engine.queue.length]

/-- What STATUS_GET_CHANNEL_SUMMARY answers (R154). -/
def State.summaryWords (s : State) : List Word :=
  (List.range 8).flatMap (fun c => channelSummary (s.channel c)) ++ (List.range 16).flatMap s.siteSummary

/-- The ten subjects of STATUS_GET (R179). Subjects 6, 8, 9 and 10 have no index, and their index field is
ignored. -/
def statusRows : List StatusRow :=
  [⟨.statusGetScheme, 1, 15, fun s i => (s.schemeDef i).isSome, State.schemeWordsOf⟩,
   ⟨.statusGetSelection, 2, 15, fun s i => (s.schemeDef i).isSome, State.selectionWordsOf⟩,
   ⟨.statusGetContingency, 3, 31, fun s i => (s.contingency? i).isSome, State.contingencyWordsOf⟩,
   ⟨.statusGetAction, 4, 95, fun s i => (s.actionDef i).isSome, State.actionWordsOf⟩,
   ⟨.statusGetPoint, 5, 191, State.isPoint, State.pointWordsOf⟩,
   ⟨.statusGetChannelSummary, 6, 255, fun _ _ => true, fun s _ => s.summaryWords⟩,
   ⟨.statusGetSite, 7, 15, fun s i => (s.siteDef i).isSome, State.siteWordsOf⟩,
   ⟨.statusGetOrderTable, 8, 255, fun _ _ => true, fun s _ => s.orderTableWords⟩,
   ⟨.statusGetBankStatus, 9, 255, fun _ _ => true, fun s _ => s.bankWords⟩,
   ⟨.statusGetCorridorTime, 10, 255, fun _ _ => true, fun s _ => wordsTime s.now⟩]

/-- A row of a host request: its command, its kind code (Table 11-8), the payload lengths it has. -/
structure RequestRow where
  command : Instr
  kind : Nat
  fits : List Word → Bool

/-- The rows of the host's requests, with the lengths of Table 11-8. -/
def requestRows : List RequestRow :=
  [⟨.ident, 0x20, isLength 0⟩, ⟨.stageOpen, 0x21, isLength 2⟩, ⟨.stageWrite, 0x22, stageWriteLength⟩,
   ⟨.stageSeal, 0x23, isLength 0⟩, ⟨.bankSwitch, 0x24, isLength 0⟩, ⟨.bankCancel, 0x25, isLength 0⟩,
   ⟨.bankRead, 0x26, isLength 2⟩, ⟨.schemeReset, 0x28, isLength 1⟩,
   ⟨.contingencyReset, 0x29, isLength 1⟩, ⟨.pointPut, 0x2B, putLength⟩, ⟨.pointSubst, 0x2C, isLength 2⟩,
   ⟨.pointRelease, 0x2D, isLength 1⟩, ⟨.reportFetch, 0x2F, isLength 1⟩, ⟨.channelProbe, 0x31, probeLength⟩,
   ⟨.engineRestart, 0x32, isLength 0⟩] ++
  [Instr.schemeSetEnable, .schemeSetDisable, .schemeSetBlock, .schemeSetUnblock, .schemeSetService,
    .schemeSetTest].map (fun c => ⟨c, 0x27, isLength 1⟩) ++
  [Instr.actionSetBlock, .actionSetRestore].map (fun c => ⟨c, 0x2A, isLength 1⟩) ++
  statusRows.map (fun x => ⟨x.command, 0x2E, isLength 1⟩) ++
  [Instr.channelSetEnable, .channelSetDisable, .channelSetLoopback, .channelSetNormal,
    .channelSetReset].map (fun c => ⟨c, 0x30, isLength 1⟩)

/-! ## Invariants -/

/-- The Report Queue never holds more than 96 records, nor more than 64 ROUTINE ones (R186). -/
abbrev ReportQueue.Bounded (q : ReportQueue) : Prop :=
  q.records.length ≤ Config.reportLimit ∧ q.routineCount ≤ Config.routineLimit

def Request.isReplied (r : Request) : Bool := decide (r.stage = .replied)
def Request.isRunning (r : Request) : Bool := decide (r.stage = .running)

/-- At most two requests (R174), at most two immediate refusals (R173), one completion reply for each
request that has its reply (R174 to R176), at most one request being carried out (R175). -/
abbrev Port.Consistent (p : Port) : Prop :=
  p.requests.length ≤ Config.requestLimit ∧ p.refusals ≤ Config.refusalLimit ∧
    (p.replies.filter (fun r => !r.immediate)).length = (p.requests.filter Request.isReplied).length ∧
    (p.requests.filter Request.isRunning).length ≤ 1

/-- At most 48 orders, whose serials lie in 1 to 65535 and differ from each other and from the next serial
(R101, R105). -/
abbrev Dispatcher.Consistent (d : Dispatcher) : Prop :=
  d.orders.length ≤ Config.orderLimit ∧ (d.orders.map Order.serial).Nodup ∧
    (∀ o ∈ d.orders, 1 ≤ o.serial ∧ o.serial ≤ 65535) ∧
    1 ≤ d.nextSerial ∧ d.nextSerial ≤ 65535 ∧ d.nextSerial ∉ d.orders.map Order.serial

/-- At most 8 frames wait, at most 16 outcomes, an acquire progress of at most 16, at most two frames in buffers, a
sequence of four bits (Table 7-4, R138). -/
abbrev Channel.Bounded (c : Channel) : Prop :=
  c.queue.length ≤ Config.txLimit ∧ c.window.length ≤ Config.windowLimit ∧ c.progress ≤ 16 ∧
    c.buffers.length ≤ Config.rxBuffers ∧ c.outSeq < 16

/-- A bank holds a check value exactly while SEALED, and a seal failure exactly while REJECTED (R158). -/
abbrev Bank.Consistent (b : Bank) : Prop :=
  (b.check.isSome ↔ b.state = .sealed) ∧ (b.sealFailure.isSome ↔ b.state = .rejected)

/-- The active bank is EMPTY or SEALED (R155), a switch has a requested label and a SEALED staged bank (R161,
Table 8-5). -/
abbrev BankStore.Consistent (b : BankStore) : Prop :=
  b.active.Consistent ∧ b.staged.Consistent ∧
    (b.active.state = .empty ∨ b.active.state = .sealed) ∧
    (b.switch = .idle ↔ b.requested = none) ∧
    (b.switch ≠ .idle → b.staged.state = .sealed)

/-- Every point of the Point Store is well formed (chapter 1). -/
def PointStore.WellFormed (ps : PointStore) : Prop :=
  (∀ a p, rec? ps.analog a = some p → p.WellFormed) ∧
    (∀ a p, rec? ps.status a = some p → p.WellFormed)

end Sys2Proof.Machine

namespace Sys2Proof

open Machine

/-- The parts of the state that each command can change; a command changes no other (chapters 1 to
11). -/
def Instr.parts : Instr → List Part
  | .powerOnReset _ => [.time, .activeBank, .stagedBank, .switch, .preparation, .points,
    .contingencies, .schemes, .alert, .actions, .engineWork, .selections, .images,
    .executions, .orders, .channels, .sites, .links, .straps, .hostReceiver, .requests,
    .reports, .messages]
  | .headerDecode .host _ => [.hostReceiver, .requests]
  | .headerDecode (.channel _) _ => [.channels, .sites, .links, .reports]
  | .hostRequestArrival _ _ => [.hostReceiver, .requests]
  | .hostByteGap => [.hostReceiver, .requests]
  | .replyTransmitted => [.requests]
  | .refusalTransmitted => [.requests]
  | .ident => [.requests]
  | .stageOpen => [.stagedBank, .requests]
  | .stageWrite => [.stagedBank, .requests]
  | .stageSeal => [.stagedBank, .requests, .reports]
  | .bankSwitch => [.switch, .preparation, .engineWork, .requests, .messages]
  | .bankCancel => [.switch, .preparation, .engineWork, .requests, .reports, .messages]
  | .bankRead => [.requests]
  | .schemeSetEnable => [.preparation, .schemes, .alert, .engineWork, .requests, .reports,
    .messages]
  | .schemeSetDisable => [.preparation, .schemes, .alert, .engineWork, .requests, .reports,
    .messages]
  | .schemeSetBlock => [.preparation, .schemes, .engineWork, .requests, .messages]
  | .schemeSetUnblock => [.preparation, .schemes, .engineWork, .requests, .messages]
  | .schemeSetService => [.preparation, .schemes, .alert, .engineWork, .requests, .messages]
  | .schemeSetTest => [.preparation, .schemes, .alert, .engineWork, .requests, .messages]
  | .schemeReset => [.preparation, .schemes, .alert, .engineWork, .requests, .reports, .messages]
  | .contingencyReset => [.contingencies, .requests]
  | .actionSetBlock => [.preparation, .actions, .requests, .messages]
  | .actionSetRestore => [.preparation, .actions, .requests, .messages]
  | .pointPut => [.preparation, .points, .engineWork, .requests, .reports, .messages]
  | .pointSubst => [.preparation, .points, .engineWork, .requests, .reports, .messages]
  | .pointRelease => [.preparation, .points, .engineWork, .requests, .reports, .messages]
  | .statusGetScheme => [.requests]
  | .statusGetSelection => [.requests]
  | .statusGetContingency => [.requests]
  | .statusGetAction => [.requests]
  | .statusGetPoint => [.requests]
  | .statusGetChannelSummary => [.requests]
  | .statusGetSite => [.requests]
  | .statusGetOrderTable => [.requests]
  | .statusGetBankStatus => [.requests]
  | .statusGetCorridorTime => [.requests]
  | .reportFetch => [.requests, .reports]
  | .channelSetEnable => [.channels, .sites, .requests, .reports, .messages]
  | .channelSetDisable => [.images, .channels, .sites, .links, .requests, .reports, .messages]
  | .channelSetLoopback => [.images, .channels, .sites, .links, .requests, .reports, .messages]
  | .channelSetNormal => [.channels, .sites, .requests, .reports, .messages]
  | .channelSetReset => [.images, .channels, .sites, .links, .requests, .reports, .messages]
  | .channelProbe => [.images, .channels, .links, .requests]
  | .engineRestart => [.switch, .preparation, .contingencies, .schemes, .alert, .actions,
    .engineWork, .selections, .images, .executions, .orders, .channels, .sites, .links,
    .requests, .reports, .messages]
  | .restartComplete => [.requests]
  | .channelFrameComplete _ _ _ => [.channels, .sites, .links, .requests, .reports]
  | .receiveBufferCheck _ => [.channels, .sites, .links, .reports]
  | .siteSamplesTaken _ => [.preparation, .points, .engineWork, .channels, .reports, .messages]
  | .pollAnswer _ => [.channels, .sites, .links, .reports, .messages]
  | .indicationTaken _ => [.contingencies, .channels, .reports, .messages]
  | .tripAckTaken _ => [.preparation, .actions, .executions, .orders, .channels, .reports,
    .messages]
  | .armAckTaken _ => [.images, .channels]
  | .transmissionEnd _ => [.images, .orders, .channels, .links]
  | .pollDue _ => [.images, .channels, .links]
  | .pollCycleStart _ => [.channels]
  | .pollReplyTimeout _ _ => [.sites, .links, .reports, .messages]
  | .lossTimeExpiry _ => [.channels, .sites, .links, .reports, .messages]
  | .corridorAlertDelivery _ => [.channels, .messages]
  | .settleTimeExpiry _ => [.channels]
  | .revertDelayExpiry _ => [.sites, .reports]
  | .liveOrderNotice _ => [.sites, .reports, .messages]
  | .probeTimeout _ => [.channels, .requests]
  | .pointsSiteReachability _ => [.preparation, .points, .engineWork, .reports, .messages]
  | .actionSiteReachability _ => [.preparation, .actions, .messages]
  | .stalenessExpiry _ => [.preparation, .points, .engineWork, .reports, .messages]
  | .failureLimitExpiry _ => [.preparation, .points, .engineWork, .reports, .messages]
  | .schemeChangeNotices _ => [.preparation, .schemes, .alert, .engineWork, .reports, .messages]
  | .actionChangeNotices => [.preparation, .actions, .messages]
  | .checkPointMessages => [.contingencies, .reports, .messages]
  | .windowExpiry _ => [.contingencies, .reports, .messages]
  | .freezeRequest _ => [.schemes, .messages]
  | .freezeRelease _ => [.preparation, .schemes, .alert, .engineWork, .reports, .messages]
  | .pendingNotice => [.alert, .messages]
  | .firstEvidenceNotice _ => [.switch, .preparation, .engineWork, .reports, .messages]
  | .quiescenceNotice => [.switch, .preparation, .engineWork, .messages]
  | .handOff _ => [.preparation, .schemes, .alert, .actions, .engineWork, .images, .executions,
    .orders, .channels, .links, .reports, .messages]
  | .handOffAnswer _ => [.contingencies, .messages]
  | .executionEndNotice _ => [.contingencies, .messages]
  | .serviceExecutionEnd _ => [.preparation, .schemes, .alert, .engineWork, .reports, .messages]
  | .testExecutionEnd _ => [.preparation, .schemes, .alert, .engineWork, .reports, .messages]
  | .armDwellExpiry _ => [.preparation, .schemes, .alert, .engineWork, .reports, .messages]
  | .disarmDwellExpiry _ => [.preparation, .schemes, .alert, .engineWork, .reports, .messages]
  | .schemeStateNotice _ => [.engineWork, .images, .channels, .links, .reports, .messages]
  | .freezeNotice _ => [.engineWork, .messages]
  | .freezeReleaseNotice _ => [.engineWork, .messages]
  | .rescanRequest _ _ => [.engineWork, .messages]
  | .routineScanStep => [.engineWork, .selections, .images, .channels, .links, .reports, .messages]
  | .shadowScanStep => [.preparation, .engineWork, .messages]
  | .shadowRequeue _ => [.engineWork, .messages]
  | .coverRequest _ => [.engineWork, .messages]
  | .coverScanStep => [.engineWork, .messages]
  | .coverCancel _ => [.engineWork, .messages]
  | .coverScanStarted _ => [.executions, .messages]
  | .coverHandover _ => [.preparation, .actions, .images, .executions, .orders, .channels,
    .links, .reports, .messages]
  | .shadowCompleteNotice => [.activeBank, .stagedBank, .switch, .preparation, .points,
    .contingencies, .schemes, .alert, .actions, .engineWork, .selections, .images, .channels,
    .sites, .links, .requests, .reports, .messages]
  | .outcomeNotice _ _ _ _ => [.preparation, .actions, .messages]
  | .lateConfirmationNotice _ => [.preparation, .actions, .messages]
  | .orderTimeoutAttempt1 _ => [.preparation, .actions, .images, .executions, .orders, .channels,
    .links, .reports, .messages]
  | .orderTimeoutAttempt2 _ => [.preparation, .actions, .executions, .orders, .reports, .messages]
  | .attemptLost _ => [.preparation, .actions, .images, .executions, .orders, .channels, .links,
    .reports, .messages]
  | .executionDeadline _ => [.preparation, .actions, .executions, .orders, .channels, .reports,
    .messages]
  | .armImageReplyTimeout _ => [.images, .channels, .links, .reports]
  | .delimiterFound .host _ => [.hostReceiver]
  | .delimiterFound (.channel _) _ => [.channels]

end Sys2Proof
end

