-- ==== Sys2Proof/Certificates/Slice0/Obligations.lean ====
section
/-! DEFINITION. The statements for the provers, from the rules of the manual. -/

open Sys2Proof Sys2Proof.Machine

/-! ## Steps, reset and frames -/

/-- The command at the front of the queue is the one a step runs, on the state with the queue's rest; on an empty
queue a step is one count of corridor time, 0.1 ms (log 1: DESIGN CHOICE). -/
def Obligations.StepRunsTheFrontCommand : Prop :=
  (∀ (c : Instr) (rest : List Instr) (s : State),
    step { s with pending := c :: rest } = exec c { s with pending := rest }) ∧
  (∀ s : State, s.pending = [] → step s = .next { s with now := s.now + 1 })

/-- Every command answers a next state, in which it has changed no part but those its row names. -/
def Obligations.EveryCommandChangesOnlyItsParts : Prop :=
  ∀ (c : Instr) (s : State), ∃ t, exec c s = .next t ∧ onlyChanges c.parts s t

/-- Power-on reset, whatever the state before it (R155, R19, R37, R54, R76, R89, R96, R101, R128, R183). The absent
seal failure of both banks is the model's (log 35: DESIGN CHOICE), as are the empty list of messages (log 2: DESIGN
CHOICE) and the queue of commands that stands (log 36: DESIGN CHOICE). -/
def Obligations.PowerOnResetLeavesThePowerOnState : Prop :=
  ∀ (straps : BitVec 2) (s : State), ∃ t, exec (.powerOnReset straps) s = .next t ∧
    t.now = 0 ∧
    t.banks.active = Bank.empty ∧ t.banks.staged = Bank.empty ∧ t.banks.switch = .idle ∧
    t.banks.requested = none ∧
    (∀ a, rec? t.points.analog a = none) ∧ (∀ a, rec? t.points.status a = none) ∧
    (∀ i < 16, (item t.points.seq i noSeq).last = 0 ∧ (item t.points.seq i noSeq).resync = true) ∧
    (∀ k, t.contingency? k = none) ∧ (∀ i, t.scheme? i = none) ∧ (∀ a, t.action? a = none) ∧
    t.evaluator.anyPending = false ∧ t.evaluator.alert = false ∧
    (∀ i, item t.pool.siteReach i false = false) ∧
    (∀ i, item t.engine.held i false = false) ∧ t.engine.cover = [] ∧ t.engine.queue = [] ∧
    t.engine.running = none ∧ t.engine.suspended = none ∧ (∀ i, rec? t.engine.published i = none) ∧
    (∀ i, (t.image i).codes = [] ∧ (t.image i).version = 0 ∧ (t.image i).conf = .unconfirmed) ∧
    (∀ i, t.exec? i = none) ∧ t.dispatcher.orders = [] ∧ t.dispatcher.nextSerial = 1 ∧
    (∀ c, (t.channel c).state = .disabled ∧ (t.channel c).window = [] ∧ (t.channel c).buffers = [] ∧
      (t.channel c).queue = [] ∧ (t.channel c).tx = none ∧ (t.channel c).outSeq = 0 ∧
      (t.channel c).cadence = .relaxed ∧ (t.channel c).probe = none) ∧
    (∀ i, (t.site i).reach = false ∧ (t.site i).route = .none ∧ (t.site i).liveOrders = 0) ∧
    (∀ c i, t.link c i = ⟨false, 0, .none, none⟩) ∧
    t.port.straps = straps ∧ t.port.rx = .hunt [] ∧ t.port.requests = [] ∧ t.port.replies = [] ∧
    t.port.restart = none ∧
    t.reports.records = [] ∧ t.reports.gapAny = false ∧ t.reports.gapRoutine = false ∧
    t.inflight = [] ∧ t.pending = s.pending

/-- The machine right after reset is the power-on state with both straps low (log 6: DESIGN CHOICE), no command
waiting, and it meets every invariant below. -/
def Obligations.ResetMeetsEveryInvariant : Prop :=
  exec (.powerOnReset 0) State.reset = .next State.reset ∧ State.reset.pending = [] ∧
    State.reset.reports.Bounded ∧ State.reset.port.Consistent ∧ State.reset.dispatcher.Consistent ∧
    (∀ c, (State.reset.channel c).Bounded) ∧ State.reset.banks.Consistent ∧
    State.reset.points.WellFormed ∧ State.reset.AlertSound

/-! ## Invariants that every step keeps -/

/-- Every step keeps the Report Queue within 96 records and 64 ROUTINE ones, and every channel within 8 waiting
frames, 16 outcomes, an acquire progress of 16, two receive buffers and a sequence of four bits (log 48: DEDUCED, the
limit of 8 in LOOPBACK). -/
def Obligations.StepsKeepTheBounds : Prop :=
  (∀ s t : State, step s = .next t → s.reports.Bounded → t.reports.Bounded) ∧
  (∀ s t : State, step s = .next t → (∀ c, (s.channel c).Bounded) → ∀ c, (t.channel c).Bounded)

/-- Every step keeps the port's requests, replies and refusals in step with each other. -/
def Obligations.StepsKeepThePortConsistent : Prop :=
  ∀ s t : State, step s = .next t → s.port.Consistent → t.port.Consistent

/-- Every step keeps the order table within 48 orders with serials of their own. -/
def Obligations.StepsKeepTheOrderTableConsistent : Prop :=
  ∀ s t : State, step s = .next t → s.dispatcher.Consistent → t.dispatcher.Consistent

/-- Every step keeps the banks' states, check values and switch consistent. -/
def Obligations.StepsKeepTheBanksConsistent : Prop :=
  ∀ s t : State, step s = .next t → s.banks.Consistent → t.banks.Consistent

/-- Every step keeps every point well formed. -/
def Obligations.StepsKeepThePointsWellFormed : Prop :=
  ∀ s t : State, step s = .next t → s.points.WellFormed → t.points.WellFormed

/-! ## The Report Queue (chapter 10) -/

/-- R185: the admission of a ROUTINE report. -/
def Obligations.RoutineReportAdmission : Prop :=
  ∀ (q : ReportQueue) (r : Report), r.isExecution = false →
    (q.records.length < 96 ∧ q.routineCount < 64 →
      (q.offer r).records = q.records ++ [{ r with gap := q.gapAny || q.gapRoutine }]) ∧
    (¬(q.records.length < 96 ∧ q.routineCount < 64) → q.offer r = { q with gapAny := true }) ∧
    q.records <+: (q.offer r).records

/-- R186: the admission of an EXECUTION report, with the eviction of the oldest ROUTINE record. -/
def Obligations.ExecutionReportAdmission : Prop :=
  ∀ (q : ReportQueue) (r : Report),
    (r.isExecution = true →
      (q.records.length < 96 →
        (q.offer r).records = q.records ++ [{ r with gap := q.gapAny }]) ∧
      (q.records.length = 96 → ∀ before x after, q.records = before ++ x :: after →
        (∀ y ∈ before, y.isExecution = true) → x.isExecution = false →
        (q.offer r).records = before ++ after ++ [{ r with gap := q.gapAny }] ∧
          (q.offer r).gapRoutine = true) ∧
      (q.records.length = 96 → (∀ y ∈ q.records, y.isExecution = true) →
        q.offer r = { q with gapAny := true })) ∧
    (q.Bounded → (q.offer r).Bounded)

/-- R187: the gap flag of a record is decided at its admission, which clears the pending-gap flags that it spends; a
fetch shows and leaves them, and power-on reset clears them. -/
def Obligations.GapFlagsAtAdmission : Prop :=
  (∀ (q : ReportQueue) (r : Report), r.isExecution = true → q.records.length < 96 →
    ((q.offer r).records.getLast?.map Report.gap = some q.gapAny ∧ (q.offer r).gapAny = false ∧
      (q.offer r).gapRoutine = q.gapRoutine)) ∧
  (∀ (q : ReportQueue) (r : Report), r.isExecution = true → q.records.length = 96 →
    (∃ x ∈ q.records, x.isExecution = false) →
    ((q.offer r).records.getLast?.map Report.gap = some q.gapAny ∧ (q.offer r).gapAny = false ∧
      (q.offer r).gapRoutine = true)) ∧
  (∀ (q : ReportQueue) (r : Report), r.isExecution = false → q.records.length < 96 →
    q.routineCount < 64 →
    ((q.offer r).records.getLast?.map Report.gap = some (q.gapAny || q.gapRoutine) ∧
      (q.offer r).gapAny = false ∧ (q.offer r).gapRoutine = false)) ∧
  (∀ s t : State, exec .reportFetch s = .next t →
    t.reports.gapAny = s.reports.gapAny ∧ t.reports.gapRoutine = s.reports.gapRoutine) ∧
  (∀ (s : State) (r : Request) (w : Word), s.isNext r → r.kind = 0x2F → r.words = [w] →
    ∃ (t : State) (content : List Word), exec .reportFetch s = .next (t.replyTo r .none
      (content ++ [wordFlag s.reports.gapAny, wordFlag s.reports.gapRoutine]))) ∧
  (∀ (straps : BitVec 2) (s t : State), exec (.powerOnReset straps) s = .next t →
    t.reports.gapAny = false ∧ t.reports.gapRoutine = false)

/-- REPORT_FETCH (R188): the oldest records, at most 16, leave the queue and go into the reply, with the numbers that
remain and the pending-gap flags; ATTN follows (R189). -/
def Obligations.ReportFetch : Prop :=
  ∀ (s : State) (r : Request) (w : Word), s.isNext r → r.kind = 0x2F → r.words = [w] →
    let m := min (min w.toNat 16) s.reports.records.length
    let rest : ReportQueue := { s.reports with records := s.reports.records.drop m }
    exec .reportFetch s = .next (({ s with reports := rest }).replyTo r .none
      ((s.reports.records.take m).flatMap Report.words ++
        [wordOf rest.records.length, wordOf rest.executionCount, wordOf rest.routineCount,
          wordFlag rest.gapAny, wordFlag rest.gapRoutine])) ∧
    (State.attn { s with reports := rest } = true ↔ m < s.reports.records.length)

/-! ## Receivers and the Host Message Port (chapters 9 and 11) -/

/-- DELIMITER_FOUND (R191): the receiver leaves the hunt at the first C5h that 3Ah follows. HEADER_DECODE (R191,
R192): a readable header of at most 120 words starts a frame; another one sends the receiver back to the hunt at the
byte after the delimiter, with one BAD outcome on a channel (R130) and on the host line, for a readable one, a
BAD_FRAME refusal (R172). -/
def Obligations.DelimiterAndHeader : Prop :=
  (∀ (rx : Receiver) (s : State) (left bytes pre rest : List Byte), s.rx rx = .hunt left →
    s.receives rx = true → left ++ bytes = pre ++ 0xC5 :: 0x3A :: rest →
    ¬([0xC5, 0x3A] : List Byte) <:+: pre ++ [0xC5] → rest.length < 4 →
    exec (.delimiterFound rx bytes) s = .next (s.setRx rx (.header rest))) ∧
  (∀ (rx : Receiver) (s : State) (got bytes : List Byte) (b0 b1 b2 b3 : Byte),
    s.rx rx = .header got → s.receives rx = true → got ++ bytes = [b0, b1, b2, b3] →
    (∀ h, readHeader b0 b1 b2 b3 = some h → h.length ≤ 120 →
      exec (.headerDecode rx bytes) s = .next (s.setRx rx (.body h))) ∧
    (∀ c, rx = .channel c → (∀ h, readHeader b0 b1 b2 b3 = some h → 120 < h.length) →
      exec (.headerDecode rx bytes) s =
        .next ((s.setRx rx (.hunt [b0, b1, b2, b3])).recordOutcomes c [false])) ∧
    (rx = .host → readHeader b0 b1 b2 b3 = none →
      exec (.headerDecode rx bytes) s = .next (s.setRx rx (.hunt [b0, b1, b2, b3]))) ∧
    (∀ h, rx = .host → readHeader b0 b1 b2 b3 = some h → 120 < h.length →
      exec (.headerDecode rx bytes) s =
        .next ((s.setRx rx (.hunt [b0, b1, b2, b3])).refuseNow h.kind h.address .badFrame)))

/-- The check code (R191, Table 11-2): a header with its own check byte reads as it was sent, and with any
one of its data, check or parity bits inverted it reads as it was sent and is marked corrected. -/
def Obligations.HeaderCodeCorrectsOneBit : Prop :=
  ∀ b0 b1 b2 : Byte,
    let sent := headerData b0 b1 b2
    readHeader b0 b1 b2 (headerCheck b0 b1 b2) = some (headerFields sent false) ∧
    (∀ (i : Fin 24) (x0 x1 x2 : Byte), headerData x0 x1 x2 = sent ^^^ (1 <<< i.val) →
      readHeader x0 x1 x2 (headerCheck b0 b1 b2) = some (headerFields sent true)) ∧
    (∀ j : Fin 8, 2 ≤ j.val →
      readHeader b0 b1 b2 (headerCheck b0 b1 b2 ^^^ (1 <<< j.val)) = some (headerFields sent true))

/-- HOST_REQUEST_ARRIVAL (R172 to R174): CRC, then kind, then the request queue. The payload CRC (R192): its division,
initial value FFFFh, and 29B1h over the bytes 31h to 39h. -/
def Obligations.HostRequestArrival : Prop :=
  (crc16 [0x31, 0x32, 0x33, 0x34, 0x35, 0x36, 0x37, 0x38, 0x39] = 0x29B1 ∧ crc16 [] = 0xFFFF ∧
    let step (x : Word) : Word := if x.getLsbD 15 then (x <<< 1) ^^^ 0x1021 else x <<< 1
    ∀ (bytes : List Byte) (b : Byte),
      crc16 (bytes ++ [b]) = Nat.repeat step 8 (crc16 bytes ^^^ (b ++ (0 : Byte)))) ∧
  ∀ (s : State) (h : Header) (payload : List Byte) (crc : Word), s.port.rx = .body h →
    payload.length = 2 * h.length →
    let hunting := s.setRx .host (.hunt [])
    let intact := h.length = 0 ∨ crc16 payload = crc
    let known := h.reply = false ∧ h.kind ∈ requestKinds
    (¬intact → exec (.hostRequestArrival payload crc) s =
      .next (hunting.refuseNow h.kind h.address .badFrame)) ∧
    (intact → ¬known → exec (.hostRequestArrival payload crc) s =
      .next (hunting.refuseNow h.kind h.address .badKind)) ∧
    (intact → known → 2 ≤ s.port.requests.length → exec (.hostRequestArrival payload crc) s =
      .next (hunting.refuseNow h.kind h.address .busy)) ∧
    (intact → known → s.port.requests.length < 2 → exec (.hostRequestArrival payload crc) s =
      .next { hunting with port := { hunting.port with
        requests := s.port.requests ++ [⟨h.kind, h.address, bytesToWords payload, .waiting⟩] } })

/-- Immediate refusals (R172, R173): up to two are kept, a further one is discarded; HOST_BYTE_GAP makes one after the
header and none before it; REFUSAL_TRANSMITTED takes one from the transmit order. Completion replies (R174 to R176): a
request that is carried out keeps its entry, at the stage replied, until REPLY_TRANSMITTED frees it with the reply. -/
def Obligations.RepliesOfThePort : Prop :=
  ((∀ (s : State) (kind tag : Nat) (reason : Reason), s.port.refusals < 2 →
    s.refuseNow kind tag reason = { s with port := { s.port with
      replies := s.port.replies ++ [⟨kind, tag, reason, [], true⟩] } }) ∧
  (∀ (s : State) (kind tag : Nat) (reason : Reason), 2 ≤ s.port.refusals →
    s.refuseNow kind tag reason = s) ∧
  (∀ (s : State) (got : List Byte), s.port.rx = .header got →
    exec .hostByteGap s = .next (s.setRx .host (.hunt []))) ∧
  (∀ (s : State) (h : Header), s.port.rx = .body h → h.length ≠ 0 →
    exec .hostByteGap s = .next ((s.setRx .host (.hunt [])).refuseNow h.kind h.address .badFrame)) ∧
  (∀ (s : State) (r : Reply) (rest : List Reply), s.port.replies = r :: rest → r.immediate = true →
    exec .refusalTransmitted s = .next { s with port := { s.port with replies := rest } })) ∧
  ((∀ (s : State) (r : Request) (before after : List Request) (reason : Reason) (content : List Word),
    s.port.requests = before ++ r :: after → (∀ x ∈ before, x.stage ≠ .waiting) → r.stage = .waiting →
    s.replyTo r reason content = { s with port := { s.port with
      requests := before ++ { r with stage := .replied } :: after
      replies := s.port.replies ++ [⟨r.kind, r.tag, reason, content, false⟩] } }) ∧
  (∀ (s : State) (x : Reply) (rest : List Reply) (r : Request) (before after : List Request),
    s.port.replies = x :: rest → x.immediate = false → s.port.requests = before ++ r :: after →
    (∀ y ∈ before, y.stage ≠ .replied) → r.stage = .replied →
    exec .replyTransmitted s = .next { s with port := { s.port with
      replies := rest, requests := before ++ after } }))

/-- IDENT (R178, R195): part number, design level with straps, time, active bank; it changes nothing else. -/
def Obligations.Ident : Prop :=
  ∀ (s : State) (r : Request), s.isNext r → r.kind = 0x20 → r.words = [] →
    exec .ident s = .next (s.replyTo r .none
      [2416, wordPair 1 s.port.straps.toNat, s.now.extractLsb' 16 16, s.now.extractLsb' 0 16,
        wordOf (bankStateCode s.banks.active.state), s.banks.active.label])

/-- STATUS_GET (R179): the subject's items in the reply; OUT_OF_RANGE for a subject or then an index outside its
range, then NO_ITEM; nothing else is changed. That every row answers a code outside the table is log 7 (DESIGN
CHOICE), the layout of the items log 8 (DEDUCED), the definitions as configuration records log 68 (DEDUCED); what the
bad count of a DOWN channel is, and which shadow selections count as complete, are logs 66 and 67 (DESIGN CHOICE). -/
def Obligations.StatusGet : Prop :=
  (∀ row ∈ statusRows, ∀ (s : State) (r : Request) (w : Word), s.isNext r → r.kind = 0x2E →
    r.words = [w] → hi w = row.code → lo w ≤ row.last → row.present s (lo w) = true →
    exec row.command s = .next (s.replyTo r .none (row.content s (lo w)))) ∧
  (∀ row ∈ statusRows, ∀ (s : State) (r : Request) (w : Word), s.isNext r → r.kind = 0x2E →
    r.words = [w] →
    (hi w = 0 ∨ 10 < hi w → exec row.command s = .next (s.replyTo r .outOfRange [])) ∧
    (hi w = row.code → row.last < lo w → exec row.command s = .next (s.replyTo r .outOfRange [])) ∧
    (hi w = row.code → lo w ≤ row.last → row.present s (lo w) = false →
      exec row.command s = .next (s.replyTo r .noItem [])))

/-- A request whose payload has another length than its form is refused with BAD_FRAME, and nothing else is changed
(R175; the forms: R194, R195). Rows that share a kind: log 7 (DESIGN CHOICE); the lengths of STAGE_WRITE: log 12
(DEDUCED). -/
def Obligations.WrongLengthIsABadFrame : Prop :=
  ∀ row ∈ requestRows, ∀ (s : State) (r : Request), s.isNext r → r.kind = row.kind →
    row.fits r.words = false → exec row.command s = .next (s.replyTo r .badFrame [])

/-! ## Configuration banks (chapter 8) -/

/-- The form of a record is exact (R160, R194): content that STAGE_WRITE takes for a class and index is the content
that BANK_READ gives back, word for word. Entries beyond a list's count are kept (log 10: DEDUCED), and NO is coded 0
(log 11: DEDUCED). -/
def Obligations.RecordsReadBackAsWritten : Prop :=
  ∀ (c : RecordClass) (index : Nat) (ws : List Word) (x : ConfigRecord), index ≤ classLast c →
    ws.length = classWords c index → readRecord c index ws = some x → recordWords x = ws

/-- STAGE_OPEN, STAGE_WRITE and BANK_READ in IDLE (R156, R157, R160) act on the staged bank alone. Requests on the
staged bank that are refused change nothing but the port (R156 to R158, R161, R168): while a switch is PENDING or
PREPARING the staged bank is locked; a bank that is not OPEN takes no write and no seal, one that is not SEALED no
switch, IDLE no cancel; an option, a class, an index, a definition mark or a field outside its range no opening and no
write, and a bank, a class or an index outside its range no reading (lengths of a write: log 12). -/
def Obligations.StagingABank : Prop :=
  (∀ (s : State) (r : Request), s.isNext r →
    (∀ label : Word, s.banks.switch = .idle → r.kind = 0x21 → r.words = [1, label] →
      exec .stageOpen s = .next ((s.mapStaged (fun _ => { Bank.empty with
        label := label, state := .opened })).replyTo r .none [2, label])) ∧
    (∀ label : Word, s.banks.switch = .idle → r.kind = 0x21 → r.words = [2, label] →
      exec .stageOpen s = .next ((s.mapStaged (fun _ => { s.banks.active with
        label := label, check := none, state := .opened, sealFailure := none })).replyTo r .none
          [2, label])) ∧
    (∀ (w : Word) (c : RecordClass), s.banks.switch = .idle → s.banks.staged.state = .opened →
      r.kind = 0x22 → r.words = [w, 0x0000] → classOf (hi w) = some c → lo w ≤ classLast c →
      exec .stageWrite s = .next ((s.mapStaged (fun b => b.undefine c (lo w))).replyTo r .none
        [wordOf (classCode c), wordOf (lo w), 0])) ∧
    (∀ (w : Word) (c : RecordClass) (fields : List Word) (x : ConfigRecord), s.banks.switch = .idle →
      s.banks.staged.state = .opened → r.kind = 0x22 → r.words = w :: 0x0100 :: fields →
      classOf (hi w) = some c → lo w ≤ classLast c → fields.length = classWords c (lo w) →
      readRecord c (lo w) fields = some x →
      exec .stageWrite s = .next ((s.mapStaged (fun b => b.setRecord (lo w) x)).replyTo r .none
        [wordOf (classCode c), wordOf (lo w), 1])) ∧
    (∀ (bank w : Word) (c : RecordClass), r.kind = 0x26 → r.words = [bank, w] →
      bank = 1 ∨ bank = 2 → classOf (hi w) = some c → lo w ≤ classLast c →
      let b := if bank = 1 then s.banks.active else s.banks.staged
      exec .bankRead s = .next (s.replyTo r .none
        ([wordOf (bankStateCode b.state), b.label, w] ++
          match b.record? c (lo w) with
          | none => [0x0000]
          | some x => 0x0100 :: recordWords x)))) ∧
  (∀ (s : State) (r : Request), s.isNext r →
    (s.banks.switch ≠ .idle →
      (r.kind = 0x21 → r.words.length = 2 → exec .stageOpen s = .next (s.replyTo r .bankLocked [])) ∧
      (r.kind = 0x22 → stageWriteLength r.words = true →
        exec .stageWrite s = .next (s.replyTo r .bankLocked [])) ∧
      (r.kind = 0x23 → r.words = [] → exec .stageSeal s = .next (s.replyTo r .bankLocked [])) ∧
      (r.kind = 0x24 → r.words = [] → exec .bankSwitch s = .next (s.replyTo r .bankLocked []))) ∧
    (s.banks.switch = .idle →
      (s.banks.staged.state ≠ .opened → r.kind = 0x22 → stageWriteLength r.words = true →
        exec .stageWrite s = .next (s.replyTo r .badState [])) ∧
      (s.banks.staged.state ≠ .opened → r.kind = 0x23 → r.words = [] →
        exec .stageSeal s = .next (s.replyTo r .badState [])) ∧
      (s.banks.staged.state ≠ .sealed → r.kind = 0x24 → r.words = [] →
        exec .bankSwitch s = .next (s.replyTo r .badState [])) ∧
      (r.kind = 0x25 → r.words = [] → exec .bankCancel s = .next (s.replyTo r .badState [])) ∧
      (∀ (w : Word) (c : RecordClass) (fields : List Word), s.banks.staged.state = .opened →
        r.kind = 0x22 → r.words = w :: 0x0100 :: fields → classOf (hi w) = some c → lo w ≤ classLast c →
        fields.length = classWords c (lo w) → readRecord c (lo w) fields = none →
        exec .stageWrite s = .next (s.replyTo r .outOfRange [])) ∧
      (∀ option label : Word, r.kind = 0x21 → r.words = [option, label] → option ≠ 1 → option ≠ 2 →
        exec .stageOpen s = .next (s.replyTo r .outOfRange [])) ∧
      (∀ (w : Word) (rest : List Word), s.banks.staged.state = .opened → r.kind = 0x22 → r.words = w :: rest →
        stageWriteLength r.words = true →
        classOf (hi w) = none ∨ (∃ c, classOf (hi w) = some c ∧ classLast c < lo w) ∨
          (∃ mark fields, rest = mark :: fields ∧ mark ≠ 0x0000 ∧ mark ≠ 0x0100) →
        exec .stageWrite s = .next (s.replyTo r .outOfRange []))) ∧
    (∀ bank w : Word, r.kind = 0x26 → r.words = [bank, w] →
      bank ≠ 1 ∧ bank ≠ 2 ∨ classOf (hi w) = none ∨ (∃ c, classOf (hi w) = some c ∧ classLast c < lo w) →
      exec .bankRead s = .next (s.replyTo r .outOfRange [])))

/-- STAGE_SEAL of an OPEN bank in IDLE (R158): SEALED with its check value where every check of Table 8-4 passes, else
REJECTED with the first failure, kept, answered and reported. The check value in the reply is two words, the more
significant first (log 51: DEDUCED). The check value (R159): the division of the DEFINED records' class, index and
content, by the polynomial of 32 bits, FFFFFFFFh over no record. -/
def Obligations.StageSeal : Prop :=
  (∀ b : Bank,
    let content (c : RecordClass) (i : Nat) : List Byte :=
      match b.record? c i with
      | none => []
      | some x => BitVec.ofNat 8 (classCode c) :: BitVec.ofNat 8 i ::
          (recordWords x).flatMap (fun w => [w.extractLsb' 8 8, w.extractLsb' 0 8])
    b.checkValue = crc32 (([.point, .contingency, .scheme, .action, .site, .channel, .parameters] :
      List RecordClass).flatMap (fun c => (List.range (classLast c + 1)).flatMap (content c))) ∧
    ((∀ c i, b.record? c i = none) → b.checkValue = 0xFFFFFFFF)) ∧
  (let step (x : BitVec 32) : BitVec 32 := if x.getLsbD 31 then (x <<< 1) ^^^ 0x04C11DB7 else x <<< 1
   crc32 [] = 0xFFFFFFFF ∧ ∀ (bytes : List Byte) (b : Byte),
    crc32 (bytes ++ [b]) = Nat.repeat step 8 (crc32 bytes ^^^ (b ++ (0 : BitVec 24)))) ∧
  ∀ (s : State) (r : Request), s.isNext r → r.kind = 0x23 → r.words = [] → s.banks.switch = .idle →
    s.banks.staged.state = .opened →
    (sealFailureOf s.banks.staged = none →
      let v := s.banks.staged.checkValue
      exec .stageSeal s = .next ((s.mapStaged (fun b => { b with
        state := .sealed, check := some v })).replyTo r .none
          [s.banks.staged.label, v.extractLsb' 16 16, v.extractLsb' 0 16])) ∧
    (∀ f, sealFailureOf s.banks.staged = some f →
      let cls := classCode f.cls
      let check := checkCode f.check
      exec .stageSeal s = .next (((s.mapStaged (fun b => { b with
        state := .rejected, sealFailure := some f })).report (mkReport .bankEvent false s.now 0
          [s.banks.staged.label, wordPair cls f.index, wordOf check, 0, 1])).replyTo r .checkFailed
            [wordOf cls, wordOf f.index, wordOf check]))

/-- What a bank that passes the seal checks is sure of (R158, Table 8-4). -/
def Obligations.SealedBanksAreSound : Prop :=
  ∀ b : Bank, sealFailureOf b = none →
    (∀ i d, rec? b.scheme i = some d →
      (rec? b.contingency d.trigger).isSome = true ∧ d.armOff ≤ d.armOn ∧
      d.curve.Pairwise (fun p q => p.1 < q.1) ∧
      (∀ x ∈ d.inputs, (rec? b.analog x.point).isSome = true) ∧
      d.mandatory.Nodup ∧
      (∀ a ∈ d.mandatory, ∃ y, rec? b.action a = some y ∧ y.kind = .switch ∧ y.eligibleFor i = true)) ∧
    (∀ a d, rec? b.action a = some d → (rec? b.site d.site).isSome = true ∧
      (∀ p, d.source = .point p → (rec? b.analog p).isSome = true) ∧
      ∀ i < 16, d.eligible.getLsbD i = true → (rec? b.scheme i).isSome = true) ∧
    (∀ k d, rec? b.contingency k = some d → ∀ x ∈ d.terms,
      (∀ site code, x.indication = some (site, code) → (rec? b.site site).isSome = true) ∧
      ∀ p, x.check = some p → (rec? b.status p).isSome = true) ∧
    (∀ i d site slot, rec? b.analog i = some d → d.source = .slot site slot →
      (rec? b.site site).isSome = true) ∧
    (∀ i d site slot, rec? b.status i = some d → d.source = .slot site slot →
      (rec? b.site site).isSome = true) ∧
    (∀ i d, rec? b.site i = some d →
      b.params.isSome = true ∧ d.alternate ≠ some d.primary ∧
      ∀ c ∈ d.channels, (rec? b.channel c).isSome = true) ∧
    (∀ c d, rec? b.channel c = some d → ∃ p, b.params = some p ∧
      p.relaxedPeriod < d.lossTime ∧ d.replyTimeout < p.briskPeriod) ∧
    (∀ i j d e site slot, rec? b.analog i = some d → rec? b.analog j = some e →
      d.source = .slot site slot → e.source = .slot site slot → i = j) ∧
    (∀ i j d e site slot, rec? b.status i = some d → rec? b.status j = some e →
      d.source = .slot site slot → e.source = .slot site slot → i = j)

/-- BANK_SWITCH and BANK_CANCEL (R161, R162, R168). FIRST_EVIDENCE_NOTICE and QUIESCENCE_NOTICE (R162, R164): the one
takes a PREPARING switch back to PENDING with a report, the other takes a PENDING switch of a quiescent part to
PREPARING; else only the message is gone. A preparation that ends leaves the Engine to go on with its other work
(R90). Entry to PREPARING (R21, R50, R163) and what follows an event while it lasts (R21, R50, R95), or a change of a
scheme's live state (R163); outside PREPARING neither does anything. Which change of a staged view is one, and that
its notice is taken at once, is log 44 (DEDUCED); where a requeue and a move out of the three states meet is log 53
(DEDUCED). -/
def Obligations.SwitchAndPreparation : Prop :=
  (∀ (s : State) (r : Request), s.isNext r → r.words = [] →
    (r.kind = 0x24 → s.banks.switch = .idle → s.banks.staged.state = .sealed → s.quiescent = false →
      exec .bankSwitch s = .next (({ s with banks := { s.banks with
        switch := .pending, requested := some s.banks.staged.label } }).replyTo r .none [2])) ∧
    (r.kind = 0x24 → s.banks.switch = .idle → s.banks.staged.state = .sealed → s.quiescent = true →
      ∃ t, exec .bankSwitch s = .next (t.replyTo r .none [3]) ∧ t.banks.switch = .preparing ∧
        t.banks.requested = some s.banks.staged.label ∧ s.preparationStarted t ∧
        onlyChanges [.switch, .preparation, .engineWork, .messages] s t) ∧
    (r.kind = 0x25 → s.banks.switch ≠ .idle →
      ∃ t, exec .bankCancel s = .next (t.replyTo r .none []) ∧ t.banks.switch = .idle ∧
        State.wentOn { s with engine := s.engine.without (fun k _ => decide (k = .shadow)) } t ∧
        t.banks.requested = none ∧ (∀ i, rec? t.evaluator.prepared i = none) ∧
        t.views = StagedPoints.none ∧ (∀ i, rec? t.banks.carry i = none) ∧
        (∀ i, rec? t.engine.shadow i = none) ∧ (∀ a, rec? t.pool.staged a = none) ∧
        t.engine.shadowIdle = true ∧
        reportsOffered [mkReport .bankEvent false s.now 0 [s.banks.requested.getD 0, 1, 0, 0, 3]] s t ∧
        onlyChanges [.switch, .preparation, .engineWork, .messages, .reports] s t)) ∧
  ((∀ (s : State) (k : Fin 32),
    s.isFirst (fun m => (firstEvidence? k m).isSome) (.firstEvidence k) →
    let u := s.without (fun m => (firstEvidence? k m).isSome)
    (s.banks.switch = .preparing → ∃ t, exec (.firstEvidenceNotice k) s = .next t ∧
      State.wentOn { s with engine := s.engine.without (fun k _ => decide (k = .shadow)) } t ∧
      t.banks.switch = .pending ∧ t.banks.requested = s.banks.requested ∧
      (∀ i, rec? t.evaluator.prepared i = none) ∧ (∀ i, rec? t.engine.shadow i = none) ∧
      t.views = StagedPoints.none ∧ (∀ i, rec? t.banks.carry i = none) ∧
      (∀ a, rec? t.pool.staged a = none) ∧ t.engine.shadowIdle = true ∧
      reportsOffered [mkReport .bankEvent false s.now 0
        [s.banks.requested.getD 0, wordOf k, 0, 0, 2]] s t ∧
      onlyChanges [.switch, .preparation, .engineWork, .messages, .reports] s t) ∧
    (s.banks.switch ≠ .preparing → exec (.firstEvidenceNotice k) s = .next u)) ∧
  (∀ s : State, s.isFirst (fun m => (quiescence? m).isSome) .quiescence →
    (s.banks.switch = .pending → s.quiescent = true → ∃ t, exec .quiescenceNotice s = .next t ∧
      t.banks.switch = .preparing ∧ t.banks.requested = s.banks.requested ∧ s.preparationStarted t ∧
      onlyChanges [.switch, .preparation, .engineWork, .messages] s t) ∧
    (s.banks.switch ≠ .pending ∨ s.quiescent = false →
      exec .quiescenceNotice s = .next (s.without (fun m => (quiescence? m).isSome)))) ∧
  (∀ s : State, s.banks.switch = .preparing →
    let t := s.refreshPreparation
    t.views = s.stagedPoints ∧ t.pool.staged = stagedViews s ∧
    (∀ i d, rec? s.banks.staged.scheme i = some d → enableAfter d (s.scheme? i) = true →
      let moved := ∃ x ∈ d.inputs, viewMoved (rec? s.views.analog x.point) (s.stagedAnalog x.point) = true
      let e := evaluate d s.stagedView s.now
      let outcome := (carryRule d s.now (s.scheme? i) e.q).1
      (moved → rec? t.evaluator.prepared i = some e ∧ rec? t.banks.carry i = some outcome ∧
        s.shadowFollowed t i ∧
        ∀ old, rec? s.banks.carry i = some old → (s.plans i ↔ t.plans i) →
          old ≠ outcome ∨ (rec? s.evaluator.prepared i).map EvalRec.requirement ≠ some e.requirement →
          .shadowRequeue i ∈ t.inflight) ∧
      (¬moved → rec? t.evaluator.prepared i = rec? s.evaluator.prepared i ∧
        rec? t.banks.carry i = rec? s.banks.carry i ∧ rec? t.engine.shadow i = rec? s.engine.shadow i)) ∧
    (∀ a d i, rec? s.banks.staged.action a = some d → i < 16 → d.eligible.getLsbD i = true →
      stagedDiffers (rec? s.pool.staged a) (s.stagedAction a) = true → .shadowRequeue i ∈ t.inflight) ∧
    onlyChanges [.preparation, .engineWork, .messages] s t) ∧
  (∀ s : State, s.banks.switch ≠ .preparing → s.refreshPreparation = s) ∧
  (∀ (s : State) (i : Nat), s.carriesFollowed (s.refreshCarry i) (fun j => j = i)))

/-- SHADOW_COMPLETE_NOTICE (R165 to R167): the staged views are brought up to date; then a complete preparation of a
quiescent part is committed by every block's carry rule (R20, R38, R52, R74, R96, R97, R99, R153), that of a part not
quiescent goes back to PENDING, naming the lowest contingency that keeps it from being quiescent, and an incomplete
one waits on. The points, contingencies and schemes are given row by row (R1, R7, R20, R34, R38, R54, R74), and every
report (R58, R59, R74, R88, R129, R144, R147, R170); the corridor alert is recomputed (R71, R74). The order of the
reports is the model's (log 38: DEDUCED; logs 23 and 65: DESIGN CHOICE). Requeues, views and messages on their way:
logs 14, 15, 26, 37, 41, 69; the state time: log 52; a scheme left undefined: log 46 (all DEDUCED); a scheme never
published: log 29 (DESIGN CHOICE); sites: log 45 (DESIGN CHOICE) and log 47 (DEDUCED). -/
def Obligations.ShadowCompleteCommitsTheBank : Prop :=
  ∀ s : State, s.isFirst (fun m => (shadowComplete? m).isSome) .shadowComplete →
    let v := (s.without (fun m => (shadowComplete? m).isSome)).refreshPreparation
    let old := s.banks.active
    let new := s.banks.staged
    (s.banks.switch = .preparing → v.shadowDone = true → s.quiescent = true →
      ∃ t, exec .shadowCompleteNotice s = .next t ∧
        t.banks = ⟨new, old, .idle, none, Vector.replicate 16 none⟩ ∧ t.views = StagedPoints.none ∧
        (∀ a : Fin 64, pointCarried s.now 0 ((rec? old.analog a).map AnalogDef.source)
          ((rec? new.analog a).map (fun d => (d.source, d.staleness))) (rec? s.points.analog a)
          (rec? t.points.analog a)) ∧
        (∀ a : Fin 128, pointCarried s.now StatusVal.invalid ((rec? old.status a).map StatusDef.source)
          ((rec? new.status a).map (fun d => (d.source, d.staleness))) (rec? s.points.status a)
          (rec? t.points.status a)) ∧
        (∀ k : Fin 32, contingencyCarried (s.endsOnTheWay k) (rec? new.contingency k) (s.contingency? k)
          (t.contingency? k)) ∧
        (∀ i : Fin 16, (rec? new.scheme i = none → t.scheme? i = none) ∧
          ∀ d, rec? new.scheme i = some d → ∃ y, t.scheme? i = some y ∧
            schemeCarried s.now d (rec? v.evaluator.prepared i) (s.scheme? i) y) ∧
        (t.engine.cover = [] ∧ t.engine.queue = [] ∧ t.engine.running = none ∧ t.engine.suspended = none ∧
         (∀ i, item t.engine.held i false = false) ∧ (∀ i, rec? t.engine.shadow i = none) ∧
         ∀ i : Fin 16, rec? t.engine.published i =
           if (rec? new.scheme i).isSome then rec? v.engine.shadow i else none) ∧
        s.actionsCarried t ∧ s.channelsCarried t ∧ s.sitesCarried t ∧ s.imagesCarried t ∧ s.alertFollowed t ∧
        reportsOffered (s.commitReports t) s t ∧
        onlyChanges [.activeBank, .stagedBank, .switch, .preparation, .points, .contingencies, .schemes,
          .alert, .actions, .engineWork, .selections, .images, .channels, .sites, .links, .requests,
          .reports, .messages] s t) ∧
    (s.banks.switch = .preparing → v.shadowDone = true → s.quiescent = false →
      ∃ t k, exec .shadowCompleteNotice s = .next t ∧ t.banks.switch = .pending ∧
        (∀ j, s.unsettles j → s.unsettles k ∧ k ≤ j) ∧
        reportsOffered [mkReport .bankEvent false s.now 0 [s.banks.requested.getD 0, wordOf k, 0, 0, 2]] s t ∧
        onlyChanges [.switch, .preparation, .engineWork, .messages, .reports] s t) ∧
    (s.banks.switch ≠ .preparing ∨ v.shadowDone = false → exec .shadowCompleteNotice s = .next v) ∧
    (s.banks.switch ≠ .preparing → v = s.without (fun m => (shadowComplete? m).isSome))

/-! ## Arming arithmetic (chapter 3) -/

/-- An evaluation (R39 to R47): the exact weighted sum divided by 256 and rounded toward negative infinity,
clamped to 16 bits; the curve value there; with the margin, limited to 32767, the requirement. -/
def Obligations.EvaluationRunsTheFourStages : Prop :=
  (∀ (d : SchemeDef) (view : Nat → UsedValue × Quality) (now : Time),
    let value (i : InputDef) : Int := match (view i.point).1 with
      | .num v => v
      | .worst lo hi => if 0 ≤ i.weight then hi else lo
    let sum : Int := (d.inputs.map (fun i => value i * i.weight)).sum
    let e := evaluate d view now
    e.q = max (-32768) (min 32767 (sum / 256)) ∧ e.position = (curveAt d.curve e.q).1 ∧
      e.requirement = min ((curveAt d.curve e.q).2 + d.margin) 32767 ∧
      e.inputs = d.inputs.map (fun i => ⟨value i, (view i.point).2⟩) ∧
      (e.degraded = true ↔ ∃ i ∈ d.inputs, (view i.point).2 ≠ .good ∧ (view i.point).2 ≠ .limited) ∧
      e.time = now ∧
      (d.inputs.length ≤ 4 → (∀ i ∈ d.inputs, -32768 ≤ value i ∧ value i ≤ 32767 ∧
          -1024 ≤ i.weight ∧ i.weight ≤ 1023) →
        -134213632 ≤ sum ∧ sum ≤ 134217728 ∧ -524272 ≤ sum / 256 ∧ sum / 256 ≤ 524288)) ∧
  (armingQuantity 255 = 0 ∧ armingQuantity 256 = 1 ∧ armingQuantity (-1) = -1 ∧
    armingQuantity (-256) = -1 ∧ armingQuantity (-257) = -2 ∧ armingQuantity 192192 = 750 ∧
    armingQuantity (-192192) = -751 ∧ armingQuantity 122760000 = 32767)

/-- R45: the position of Q on a curve of two or more breakpoints in strictly increasing x, and the curve value there.
-/
def Obligations.CurvePositionOfQ : Prop :=
  ∀ (curve : List (Int × Nat)) (q : Int) (first last : Int × Nat), 2 ≤ curve.length →
    curve.Pairwise (fun p r => p.1 < r.1) → curve.head? = some first → curve.getLast? = some last →
    (q ≤ first.1 → curveAt curve q = (.below, first.2)) ∧
    (last.1 ≤ q → curveAt curve q = (.above, last.2)) ∧
    (first.1 < q → q < last.1 → ∃ k p r, k + 2 ≤ curve.length ∧ curve[k]? = some p ∧
      curve[k + 1]? = some r ∧ p.1 ≤ q ∧ q < r.1 ∧
      curveAt curve q = (.segment k, (interpolate p r q).toNat) ∧
      ∀ j a b, curve[j]? = some a → curve[j + 1]? = some b → a.1 ≤ q → q < b.1 → j = k) ∧
    (∀ j p, 0 < j → j + 1 < curve.length → curve[j]? = some p →
      curveAt curve p.1 = (.segment j, p.2)) ∧
    (curve.length = 2 → first.1 < q → q < last.1 → (curveAt curve q).1 = .segment 0)

/-- R46: inside a segment the curve value is the first y plus a quotient rounded toward positive infinity, formed from
the exact product; the value lies between the two ends. -/
def Obligations.InterpolationInsideASegment : Prop :=
  (∀ (p r : Int × Nat) (q : Int), -32768 ≤ p.1 → r.1 ≤ 32767 → p.2 ≤ 32767 → r.2 ≤ 32767 →
    p.1 ≤ q → q < r.1 →
    let product := ((r.2 : Int) - p.2) * (q - p.1)
    let width := r.1 - p.1
    let quotient := interpolate p r q - p.2
    0 ≤ q - p.1 ∧ q - p.1 ≤ 65534 ∧ 1 ≤ width ∧ width ≤ 65535 ∧
      -32767 ≤ (r.2 : Int) - p.2 ∧ (r.2 : Int) - p.2 ≤ 32767 ∧
      -2147385345 < product ∧ product < 2147385345 ∧
      product ≤ quotient * width ∧ (quotient - 1) * width < product ∧
      (p.2 ≤ r.2 → 0 ≤ quotient ∧ quotient ≤ (r.2 : Int) - p.2) ∧
      (r.2 ≤ p.2 → (r.2 : Int) - p.2 ≤ quotient ∧ quotient ≤ 0) ∧
      0 ≤ interpolate p r q ∧ interpolate p r q ≤ 32767) ∧
  ceilDiv (-375375) 1000 = -375

/-- The judgement of Q (R55 to R57, R62): below ARMED against A_on alone, from ARMED on against A_off alone; a dwell
that is left is abandoned, one that is entered is full, and one of 0 ms takes no time. A stopped dwell resumes with
its kept remaining time, and with 0 remaining it expires at once, which the judgement marks (R61, R62). -/
def Obligations.JudgementOfQ : Prop :=
  ∀ (d : SchemeDef) (now : Time) (q : Int) (ends : Time),
    let armDwell : Dwell := ⟨.arm, .running ends⟩
    let disarmDwell : Dwell := ⟨.disarm, .running ends⟩
    let full (k : DwellKind) (ms : Nat) : Option Dwell :=
      some ⟨k, .running (now + BitVec.ofNat 32 (ms * 10))⟩
    (q < d.armOn → judgeArm d now .disarmed none q = ⟨.disarmed, none, false, false⟩ ∧
      judgeArm d now .arming (some armDwell) q = ⟨.disarmed, none, false, false⟩) ∧
    (d.armOn ≤ q →
      judgeArm d now .arming (some armDwell) q = ⟨.arming, some armDwell, false, false⟩ ∧
      (d.armDwell ≠ 0 →
        judgeArm d now .disarmed none q = ⟨.arming, full .arm d.armDwell, true, false⟩) ∧
      (d.armDwell = 0 → judgeArm d now .disarmed none q = ⟨.armed, none, true, false⟩)) ∧
    (d.armOff ≤ q → judgeArm d now .armed none q = ⟨.armed, none, false, false⟩ ∧
      judgeArm d now .disarming (some disarmDwell) q = ⟨.armed, none, false, false⟩) ∧
    (q < d.armOff →
      judgeArm d now .disarming (some disarmDwell) q = ⟨.disarming, some disarmDwell, false, false⟩ ∧
      (d.disarmDwell ≠ 0 →
        judgeArm d now .armed none q = ⟨.disarming, full .disarm d.disarmDwell, false, false⟩) ∧
      (d.disarmDwell = 0 → judgeArm d now .armed none q = ⟨.disarmed, none, false, false⟩)) ∧
    (∀ n : Nat,
      let stopped (k : DwellKind) : Option Dwell := some ⟨k, .stopped n⟩
      let resumed (k : DwellKind) : Option Dwell := some ⟨k, .running (now + BitVec.ofNat 32 n)⟩
      (q < d.armOn → judgeArm d now .arming (stopped .arm) q = ⟨.disarmed, none, false, false⟩) ∧
      (d.armOn ≤ q → judgeArm d now .arming (stopped .arm) q =
        if n = 0 then ⟨.armed, none, false, true⟩ else ⟨.arming, resumed .arm, false, false⟩) ∧
      (d.armOff ≤ q → judgeArm d now .disarming (stopped .disarm) q = ⟨.armed, none, false, false⟩) ∧
      (q < d.armOff → judgeArm d now .disarming (stopped .disarm) q =
        if n = 0 then ⟨.disarmed, none, false, true⟩ else ⟨.disarming, resumed .disarm, false, false⟩))

/-- The seamless carry rule (R166), row by row. -/
def Obligations.SeamlessCarry : Prop :=
  ∀ (d : SchemeDef) (now : Time) (q : Int),
    let full (k : DwellKind) (ms : Nat) : Option Dwell :=
      some ⟨k, .running (now + BitVec.ofNat 32 (ms * 10))⟩
    let fromBelow : Reported × Option Dwell :=
      if q < d.armOn then (.on .disarmed, none)
      else if d.armDwell = 0 then (.on .armed, none)
      else (.on .arming, full .arm d.armDwell)
    (d.initialEnable = false → carryRule d now none q = (.off, none)) ∧
    (d.initialEnable = true → carryRule d now none q = fromBelow) ∧
    (∀ x : Scheme, x.enable = false → carryRule d now (some x) q = (.off, none)) ∧
    (∀ x : Scheme, x.enable = true → x.arm = .latched →
      carryRule d now (some x) q = (.on .latched, none)) ∧
    (∀ x : Scheme, x.enable = true → x.arm = .armed ∨ x.arm = .disarming →
      carryRule d now (some x) q =
        if d.armOff ≤ q then (.on .armed, none)
        else if d.disarmDwell = 0 then (.on .disarmed, none)
        else (.on .disarming, full .disarm d.disarmDwell)) ∧
    (∀ x : Scheme, x.enable = true → x.arm = .disarmed ∨ x.arm = .arming →
      carryRule d now (some x) q = fromBelow)

/-! ## Schemes (chapter 4) -/

/-- SCHEME_CHANGE_NOTICES (R40, R48, R49, R58, R59): the batch is taken; each scheme it reaches that can be evaluated is
evaluated from the points as they stand and judged, and no other scheme is changed. One whose freeze request is on its
way is held (log 59: DEDUCED). A rescan request is sent for one that enters ARMING, or whose requirement changes while
its arm state calls for a selection; a change of arm state goes to the Engine and is reported with cause EVALUATION (1),
and nothing else is reported. The corridor alert (R71) and a preparation (R163) follow the schemes evaluated. -/
def Obligations.SchemeChangeNotices : Prop :=
  ∀ (s : State) (k : Nat) (batch : List PointNotice) (rest : List Msg),
    takeNth schemeChange? k s.inflight = some (batch, rest) →
    let evaluated (i : Nat) (x : Scheme) (d : SchemeDef) : Prop :=
      (∃ a ∈ d.inputs, ∃ n ∈ batch, n.point = a.point) ∧
      x.enable = true ∧ x.frozen = false ∧ .freezeReq i ∉ s.inflight ∧ x.arm ≠ .executing ∧ x.arm ≠ .latched
    ∃ t rs, exec (.schemeChangeNotices k) s = .next t ∧ reportsOffered rs s t ∧
      (∀ r, r ∈ rs ↔ ∃ i x y, i < 16 ∧ s.scheme? i = some x ∧ t.scheme? i = some y ∧ x.arm ≠ y.arm ∧
        r = armStateReport s.now i (armCode x.arm) 1 y) ∧
      (∀ i, s.schemeDef i = none → t.scheme? i = s.scheme? i) ∧
      (∀ i x d, s.scheme? i = some x → s.schemeDef i = some d →
        let e := evaluate d s.liveView s.now
        let j := judgeArm d s.now x.arm x.dwell e.q
        (evaluated i x d →
          t.scheme? i = some { x with
            record := some e, arm := j.arm, dwell := j.dwell
            stateTime := if x.arm = j.arm then x.stateTime else s.now } ∧
          (x.arm ≠ j.arm → .schemeState i true j.arm x.mode ∈ t.inflight) ∧
          (j.entered = true ∨ j.arm.isPlanned = true ∧ (∃ old, x.record = some old ∧
              old.requirement ≠ e.requirement) → .rescan i .evaluator ∈ t.inflight) ∧
          s.alertFollowedThrough t) ∧
        (¬evaluated i x d → t.scheme? i = some x)) ∧
      s.carriesFollowed t (fun i => ∃ x d, s.scheme? i = some x ∧ s.schemeDef i = some d ∧ evaluated i x d) ∧
      onlyChanges [.preparation, .schemes, .alert, .engineWork, .reports, .messages] s t

/-- SCHEME_SET ENABLE and DISABLE (R68) of a scheme that is not frozen (log 30: DEDUCED): evaluation and judgement
from DISARMED, or DISARMED with no dwell and no record; one report with cause SCHEME_SET (5), one notice to the
Engine; DONE with nothing changed where the scheme already is so (4.6). SCHEME_RESET of a LATCHED
scheme that is not frozen (R67): DISARMED, one evaluation and its judgement, one report from LATCHED with cause
SCHEME_RESET (6). The corridor alert (R71) and a preparation (R163) follow the change. -/
def Obligations.SchemeEnableDisableReset : Prop :=
  (∀ (s : State) (r : Request) (w : Word) (d : SchemeDef) (x : Scheme), s.isNext r → r.kind = 0x27 →
    r.words = [w] → hi w < 16 → s.schemeDef (hi w) = some d → s.scheme? (hi w) = some x →
    x.frozen = false → x.arm ≠ .executing →
    let i := hi w
    let follows (t : State) (y : Scheme) : Prop :=
      messagesSent Msg.isSchemeState [.schemeState i y.enable y.arm y.mode] s t ∧
        s.alertFollowed t ∧ s.carriesFollowed t (fun j => j = i)
    (lo w = 1 → x.enable = false →
      let e := evaluate d s.liveView s.now
      let j := judgeDisarmed d s.now e.q
      let y := { x with
        enable := true, arm := j.arm, dwell := j.dwell, record := some e, stateTime := s.now }
      ∃ t, exec .schemeSetEnable s = .next (t.replyTo r .none
          [1, wordFlag x.blocked, wordOf (modeCode x.mode), wordOf (armCode j.arm)]) ∧
        t.evaluator.schemes = put s.evaluator.schemes i (some y) ∧
        reportsOffered [armStateReport s.now i 0 5 y] s t ∧
        follows t y ∧
        (j.entered = true → .rescan i .evaluator ∈ t.inflight) ∧
        onlyChanges [.preparation, .schemes, .alert, .engineWork, .reports, .messages] s t) ∧
    (lo w = 2 → x.enable = true → x.arm ≠ .latched →
      let y := { x with
        enable := false, arm := .disarmed, dwell := none, record := none, stateTime := s.now }
      ∃ t, exec .schemeSetDisable s = .next (t.replyTo r .none
          [2, wordFlag x.blocked, wordOf (modeCode x.mode), 1]) ∧
        t.evaluator.schemes = put s.evaluator.schemes i (some y) ∧
        reportsOffered [armStateReport s.now i (armCode x.arm) 5 y] s t ∧
        follows t y ∧
        onlyChanges [.preparation, .schemes, .alert, .engineWork, .reports, .messages] s t) ∧
    (let same (enable : Word) : State := s.replyTo r .none
      [enable, wordFlag x.blocked, wordOf (modeCode x.mode), wordOf (armCode x.arm)]
     (lo w = 1 → x.enable = true → exec .schemeSetEnable s = .next (same 1)) ∧
     (lo w = 2 → x.enable = false → x.arm ≠ .latched → exec .schemeSetDisable s = .next (same 2)))) ∧
  (∀ (s : State) (r : Request) (w : Word) (d : SchemeDef) (x : Scheme), s.isNext r → r.kind = 0x28 →
    r.words = [w] → w.toNat < 16 → s.schemeDef w.toNat = some d → s.scheme? w.toNat = some x →
    x.enable = true → x.frozen = false → x.arm = .latched →
    let i := w.toNat
    let e := evaluate d s.liveView s.now
    let j := judgeDisarmed d s.now e.q
    let y := { x with arm := j.arm, dwell := j.dwell, record := some e, stateTime := s.now }
    ∃ t, exec .schemeReset s = .next (t.replyTo r .none
        [wordOf (armCode j.arm), wordSigned e.q, wordOf e.requirement]) ∧
      t.evaluator.schemes = put s.evaluator.schemes i (some y) ∧
      reportsOffered [armStateReport s.now i 6 6 y] s t ∧
      messagesSent Msg.isSchemeState [.schemeState i true j.arm x.mode] s t ∧
      s.alertFollowed t ∧ s.carriesFollowed t (fun j => j = i) ∧
      (j.entered = true → .rescan i .evaluator ∈ t.inflight) ∧
      onlyChanges [.preparation, .schemes, .alert, .engineWork, .reports, .messages] s t)

/-- SCHEME_SET BLOCK, UNBLOCK, SERVICE and TEST (R69, R70): the flag alone, or the mode alone with its notice to the
Engine and the corridor alert recomputed (R71), and no report; a preparation follows the change (R163); DONE with
nothing changed where the scheme already is so (4.6; of a frozen scheme BLOCK and UNBLOCK alone, log 30: DEDUCED). -/
def Obligations.SchemeBlockAndMode : Prop :=
  ∀ (s : State) (r : Request) (w : Word) (d : SchemeDef) (x : Scheme), s.isNext r → r.kind = 0x27 →
    r.words = [w] → hi w < 16 → s.schemeDef (hi w) = some d → s.scheme? (hi w) = some x →
    let i := hi w
    let reply (y : Scheme) : List Word :=
      [if y.enable then 1 else 2, wordFlag y.blocked, wordOf (modeCode y.mode), wordOf (armCode y.arm)]
    let changes (c : Instr) (y : Scheme) : Prop :=
      ∃ t, exec c s = .next (t.replyTo r .none (reply y)) ∧
        t.evaluator.schemes = put s.evaluator.schemes i (some y) ∧
        messagesSent Msg.isSchemeState [] s t ∧ s.carriesFollowed t (fun j => j = i) ∧
        onlyChanges [.preparation, .schemes, .engineWork, .messages] s t
    let mode (c : Instr) (y : Scheme) : Prop :=
      ∃ t, exec c s = .next (t.replyTo r .none (reply y)) ∧
        t.evaluator.schemes = put s.evaluator.schemes i (some y) ∧
        messagesSent Msg.isSchemeState [.schemeState i x.enable x.arm y.mode] s t ∧
        s.alertFollowed t ∧ s.carriesFollowed t (fun j => j = i) ∧
        onlyChanges [.preparation, .schemes, .alert, .engineWork, .messages] s t
    (lo w = 3 → x.blocked = false → changes .schemeSetBlock { x with blocked := true }) ∧
    (lo w = 4 → x.blocked = true → changes .schemeSetUnblock { x with blocked := false }) ∧
    (lo w = 5 → x.frozen = false → x.arm ≠ .executing → x.mode = .test →
      mode .schemeSetService { x with mode := .service }) ∧
    (lo w = 6 → x.frozen = false → x.arm ≠ .executing → x.mode = .service →
      mode .schemeSetTest { x with mode := .test }) ∧
    (let same : Host.Outcome State Fault Refusal := .next (s.replyTo r .none (reply x))
     let free := x.frozen = false ∧ x.arm ≠ .executing
     (lo w = 3 → x.blocked = true → exec .schemeSetBlock s = same) ∧
     (lo w = 4 → x.blocked = false → exec .schemeSetUnblock s = same) ∧
     (lo w = 5 → free → x.mode = .service → exec .schemeSetService s = same) ∧
     (lo w = 6 → free → x.mode = .test → exec .schemeSetTest s = same))

/-- SCHEME_SET and SCHEME_RESET are refused (R54, R67, R68, R70), and nothing but the port is changed. Which row takes
a code outside the table: log 7 (DESIGN CHOICE); a frozen scheme refuses also where nothing would change: log 30
(DEDUCED). -/
def Obligations.SchemeRequestRefusals : Prop :=
  ∀ (s : State) (r : Request) (w : Word), s.isNext r → r.words = [w] →
    let controls : List Instr :=
      [.schemeSetEnable, .schemeSetDisable, .schemeSetBlock, .schemeSetUnblock, .schemeSetService,
        .schemeSetTest]
    (r.kind = 0x27 →
      (16 ≤ hi w → ∀ n c, controls[n]? = some c → lo w = n + 1 →
        exec c s = .next (s.replyTo r .outOfRange [])) ∧
      (hi w < 16 → s.schemeDef (hi w) = none → ∀ n c, controls[n]? = some c → lo w = n + 1 →
        exec c s = .next (s.replyTo r .noItem [])) ∧
      (∀ d x, hi w < 16 → s.schemeDef (hi w) = some d → s.scheme? (hi w) = some x →
        (lo w = 0 ∨ 6 < lo w → ∀ c ∈ controls, exec c s = .next (s.replyTo r .outOfRange [])) ∧
        (x.frozen = true ∨ x.arm = .executing → ∀ n c, controls[n]? = some c → lo w = n + 1 →
          c ≠ .schemeSetBlock → c ≠ .schemeSetUnblock → exec c s = .next (s.replyTo r .badState [])) ∧
        (x.arm = .latched → lo w = 2 → exec .schemeSetDisable s = .next (s.replyTo r .badState [])))) ∧
    (r.kind = 0x28 →
      (16 ≤ w.toNat → exec .schemeReset s = .next (s.replyTo r .outOfRange [])) ∧
      (w.toNat < 16 → s.schemeDef w.toNat = none →
        exec .schemeReset s = .next (s.replyTo r .noItem [])) ∧
      (∀ d x, w.toNat < 16 → s.schemeDef w.toNat = some d → s.scheme? w.toNat = some x →
        x.frozen = true ∨ x.arm ≠ .latched → exec .schemeReset s = .next (s.replyTo r .badState [])))

/-- ARM_DWELL_EXPIRY and DISARM_DWELL_EXPIRY (R57): at its end an arm dwell makes the scheme ARMED, a disarm dwell
DISARMED, with one report of cause DWELL (2) and one notice to the Engine; the corridor alert (R71) and a preparation
(R163) follow; before it nothing happens. -/
def Obligations.DwellExpiries : Prop :=
  ∀ (s : State) (i : Fin 16) (x : Scheme) (ends : Time), s.scheme? i = some x → x.enable = true →
    let acts (c : Instr) (y : Scheme) : Prop :=
      ∃ t, exec c s = .next t ∧ t.evaluator.schemes = put s.evaluator.schemes i (some y) ∧
        reportsOffered [armStateReport s.now i (armCode x.arm) 2 y] s t ∧
        messagesSent Msg.isSchemeState [.schemeState i true y.arm x.mode] s t ∧
        s.alertFollowed t ∧ s.carriesFollowed t (fun j => j = i) ∧
        onlyChanges [.preparation, .schemes, .alert, .engineWork, .reports, .messages] s t
    (x.arm = .arming → x.dwell = some ⟨.arm, .running ends⟩ →
      (Time.reached s.now ends = true → acts (.armDwellExpiry i) { x with
        arm := .armed, dwell := none, stateTime := s.now }) ∧
      (Time.reached s.now ends = false → exec (.armDwellExpiry i) s = .next s)) ∧
    (x.arm = .disarming → x.dwell = some ⟨.disarm, .running ends⟩ →
      (Time.reached s.now ends = true → acts (.disarmDwellExpiry i) { x with
        arm := .disarmed, dwell := none, stateTime := s.now }) ∧
      (Time.reached s.now ends = false → exec (.disarmDwellExpiry i) s = .next s))

/-- FREEZE_REQUEST (R61): the flag is set; on a scheme that is ON and neither LATCHED nor EXECUTING a running dwell
stops with its remaining time, one that is stopped stands, and the Engine is told; of any other it is not (log 58:
DEDUCED). FREEZE_RELEASE (R62): the flag is cleared and the Engine told; such a scheme is evaluated and judged with
its dwell, and asks for a rescan; the corridor alert (R71) and a preparation (R163) follow. -/
def Obligations.FreezeAndRelease : Prop :=
  (∀ (s : State) (i : Fin 16) (x : Scheme), s.isFirst (schemeLane i) (.freezeReq i) →
    s.scheme? i = some x →
    let u := s.without (schemeLane i)
    let quiet := x.enable = true ∧ x.arm ≠ .latched ∧ x.arm ≠ .executing
    (quiet → x.dwell = none ∨ (∃ k n, x.dwell = some ⟨k, .stopped n⟩) → exec (.freezeRequest i) s =
      .next ((u.setScheme i { x with frozen := true }).send (.freezeNote i))) ∧
    (∀ k ends, quiet → x.dwell = some ⟨k, .running ends⟩ → exec (.freezeRequest i) s =
      .next ((u.setScheme i { x with
        frozen := true
        dwell := some ⟨k, .stopped (if Time.reached s.now ends then 0 else (ends - s.now).toNat)⟩ }).send
          (.freezeNote i))) ∧
    (¬quiet → exec (.freezeRequest i) s = .next (u.setScheme i { x with frozen := true }))) ∧
  (∀ (s : State) (i : Fin 16) (x : Scheme) (d : SchemeDef), s.isFirst (schemeLane i) (.freezeRel i) →
    s.scheme? i = some x → s.schemeDef i = some d →
    let u := s.without (schemeLane i)
    (x.enable = true → x.arm ≠ .latched → x.arm ≠ .executing →
      let e := evaluate d s.liveView s.now
      let j := judgeArm d s.now x.arm x.dwell e.q
      let y := { x with
        frozen := false, arm := j.arm, dwell := j.dwell, record := some e
        stateTime := if x.arm = j.arm then x.stateTime else s.now }
      ∃ t, exec (.freezeRelease i) s = .next t ∧
        t.evaluator.schemes = put s.evaluator.schemes i (some y) ∧
        reportsOffered (if x.arm = j.arm then [] else
          [armStateReport s.now i (armCode x.arm) (if j.expired then 2 else 1) y]) s t ∧
        messagesSent (schemeLane i) [] u t ∧
        .freezeRelNote i ∈ t.inflight ∧ .rescan i .evaluator ∈ t.inflight ∧
        messagesSent Msg.isSchemeState
          (if x.arm = j.arm then [] else [.schemeState i true j.arm x.mode]) s t ∧
        s.alertFollowed t ∧ s.carriesFollowed t (fun j => j = i) ∧
        onlyChanges [.preparation, .schemes, .alert, .engineWork, .reports, .messages] s t) ∧
    (x.enable = false ∨ x.arm = .latched ∨ x.arm = .executing → exec (.freezeRelease i) s =
      .next ((u.setScheme i { x with frozen := false }).send (.freezeRelNote i))))

/-- SERVICE_EXECUTION_END and TEST_EXECUTION_END (R65, R66, R72): the one latches the scheme with its record as it
stood, the other restores the state before the execution and judges it as released; both report from EXECUTING (5)
with cause EXECUTION_END (4). A departure that leaves no scheme EXECUTING sends one quiescence notice, another none.
The corridor alert (R71) and a preparation (R163) follow. The end of a TEST execution clears the frozen flag (log 16:
DEDUCED). -/
def Obligations.ExecutionEndsAtTheScheme : Prop :=
  ∀ (s : State) (i : Fin 16) (x : Scheme) (d : SchemeDef), s.scheme? i = some x →
    s.schemeDef i = some d → x.enable = true → x.arm = .executing →
    let alone := ∀ j z, j ≠ i.val → s.scheme? j = some z → z.arm ≠ .executing
    let notices (u : State) : Nat := u.inflight.count .quiescence
    let changes (c : Instr) (y : Scheme) (sent : List Msg) : Prop :=
      ∃ t, exec c s = .next t ∧ t.evaluator.schemes = put s.evaluator.schemes i (some y) ∧
        reportsOffered [armStateReport s.now i 5 4 y] s t ∧
        (alone → notices t = notices s + 1) ∧ (¬alone → notices t = notices s) ∧
        messagesSent (schemeLane i) [] (s.without (schemeLane i)) t ∧
        messagesSent Msg.isSchemeState [.schemeState i true y.arm x.mode] s t ∧ (∀ m ∈ sent, m ∈ t.inflight) ∧
        s.alertFollowed t ∧ s.carriesFollowed t (fun j => j = i) ∧
        onlyChanges [.preparation, .schemes, .alert, .engineWork, .reports, .messages] s t
    let e := evaluate d s.liveView s.now
    (s.isFirst (schemeLane i) (.schemeEnd i .service) → changes (.serviceExecutionEnd i)
      { x with arm := .latched, dwell := none, preExec := none, stateTime := s.now } []) ∧
    (s.isFirst (schemeLane i) (.schemeEnd i .test) → x.preExec = some .armed →
      let j := judgeArm d s.now .armed none e.q
      changes (.testExecutionEnd i) { x with
        arm := j.arm, dwell := j.dwell, preExec := none, frozen := false, record := some e
        stateTime := s.now } [.freezeRelNote i, .rescan i .evaluator]) ∧
    (∀ n, s.isFirst (schemeLane i) (.schemeEnd i .test) → x.preExec = some (.disarming n) →
      let j := judgeArm d s.now .disarming (some ⟨.disarm, .stopped n⟩) e.q
      changes (.testExecutionEnd i) { x with
        arm := j.arm, dwell := j.dwell, preExec := none, frozen := false, record := some e
        stateTime := s.now } [.freezeRelNote i, .rescan i .evaluator])

/-- The corridor alert (R71, R142): PENDING_NOTICE recomputes it and a change goes to every channel;
CORRIDOR_ALERT_DELIVERY takes it there, where a rise makes the cadence BRISK, a fall starts the settle time of a BRISK
cadence and leaves a RELAXED one; a channel that is DISABLED or in LOOPBACK takes alert and cadence too, and has no
cycle (log 21: DEDUCED). Every step keeps the alert equal to its condition, and the last value sent to each channel,
or else the one it holds, equal to the alert. -/
def Obligations.CorridorAlert : Prop :=
  (∀ (s : State) (any : Bool), s.isFirst (fun m => (pendingNote? m).isSome) (.pendingNote any) →
    let u := s.without (fun m => (pendingNote? m).isSome)
    let alert := any || s.evaluator.schemes.toList.any (fun x =>
      match x with
      | none => false
      | some y => y.enable && y.arm.alerts)
    exec .pendingNotice s = .next { u with
      evaluator := { s.evaluator with anyPending := any, alert := alert }
      inflight := u.inflight ++
        if alert = s.evaluator.alert then [] else (List.range 8).map (fun c => .alert c alert) }) ∧
  (∀ (s : State) (c : Fin 8) (v : Bool), s.isFirst (fun m => (alertFor c m).isSome) (.alert c v) →
    let u := s.without (fun m => (alertFor c m).isSome)
    let ch := s.channel c
    (v = ch.alert → exec (.corridorAlertDelivery c) s = .next u) ∧
    (v = true → ch.alert = false → ch.cadence = .relaxed → exec (.corridorAlertDelivery c) s =
      .next (u.setChannel c { ch with
        alert := true, cadence := .brisk none false
        cycle := ch.cycle.map (fun _ => ⟨s.now, 0, briskPeriod s.banks.active.params⟩) })) ∧
    (∀ start mark, v = true → ch.alert = false → ch.cadence = .brisk start mark →
      exec (.corridorAlertDelivery c) s =
        .next (u.setChannel c { ch with alert := true, cadence := .brisk none false })) ∧
    (∀ start mark, v = false → ch.alert = true → ch.cadence = .brisk start mark →
      exec (.corridorAlertDelivery c) s =
        .next (u.setChannel c { ch with alert := false, cadence := .brisk (some s.now) false })) ∧
    (v = false → ch.alert = true → ch.cadence = .relaxed →
      exec (.corridorAlertDelivery c) s = .next (u.setChannel c { ch with alert := false }))) ∧
  (∀ s t : State, step s = .next t → s.AlertSound → t.AlertSound)

/-! ## Points (chapter 1) -/

/-- The life of a point: samples (R5, R6, R8, R9), a status sample of INVALID (R10), expiries (R7), loss of the
site (R11), substitution (R12), release (R13); the plausibility clamp (R5) and the used values (R14). -/
def Obligations.LifeOfAPoint : Prop :=
  (∀ (V : Type) (p : Point V) (now : Time) (limit need : Nat) (v : V) (clamped : Bool), 1 ≤ need →
    let age := (now - p.lastSample).toNat
    let recorded := { p with value := v, clamped := clamped, lastSample := now, neverUpdated := false }
    let settled := { recorded with
      quality := if clamped then .limited else .good, held := v, progress := 0, origin := none }
    let sampled := p.sample now need v clamped false
    let stale := { p with quality := .stale, progress := 0, origin := none }
    let failed (x : Point V) := { x with quality := .failed, progress := 0, origin := none }
    (p.quality = .good ∨ p.quality = .limited → sampled = settled) ∧
    (p.quality = .substituted → ∀ invalid, p.sample now need v clamped invalid = recorded) ∧
    (p.quality = .stale → sampled = if need = 1 then settled else
      { recorded with quality := .restoring, progress := 1, origin := some .stale }) ∧
    (p.quality = .failed → sampled = if need = 1 then settled else
      { recorded with quality := .restoring, progress := 1, origin := some .failed }) ∧
    (p.quality = .restoring → sampled = if need ≤ p.progress + 1 then settled else
      { recorded with progress := p.progress + 1 }) ∧
    (p.quality ≠ .substituted → p.sample now need v clamped true = failed recorded) ∧
    (p.quality = .good ∨ p.quality = .limited ∨ p.quality = .restoring → p.expire now limit =
      if age ≤ 10 * limit then p else if age ≤ 40 * limit then stale else failed p) ∧
    (p.quality = .stale → p.expire now limit = if age ≤ 40 * limit then p else failed p) ∧
    (p.quality = .failed ∨ p.quality = .substituted → p.expire now limit = p ∧ p.siteLost = p) ∧
    (p.quality ≠ .substituted → p.quality ≠ .failed → p.siteLost = failed p) ∧
    p.substitute v = { p with quality := .substituted, progress := 0, origin := none, subst := some v } ∧
    (∀ lost invalid, p.release now limit lost invalid =
      let base := { p with subst := none, progress := 0, origin := none }
      if p.neverUpdated = true ∨ lost = true ∨ invalid = true ∨ 40 * limit < age then
        { base with quality := .failed }
      else if 10 * limit < age then { base with quality := .stale }
      else { base with quality := if p.clamped then .limited else .good, held := p.value })) ∧
  (∀ (d : AnalogDef) (v : Int), d.lo ≤ d.hi →
    clampSample d v = (max d.lo (min d.hi v), decide (v < d.lo ∨ d.hi < v))) ∧
  (∀ (d : AnalogDef) (p : Point Int),
    let policy : UsedValue := match d.policy with
      | .hold => .num p.held
      | .zero => .num 0
      | .worst => .worst d.lo d.hi
    (p.quality = .good ∨ p.quality = .limited → usedAnalog d p = .num p.value) ∧
    (p.quality = .stale → usedAnalog d p = .num p.held) ∧
    (p.quality = .failed → usedAnalog d p = policy) ∧
    (p.quality = .restoring → p.origin = some .stale → usedAnalog d p = .num p.held) ∧
    (p.quality = .restoring → p.origin = some .failed → usedAnalog d p = policy) ∧
    (∀ v, p.quality = .substituted → p.subst = some v → usedAnalog d p = .num v)) ∧
  (∀ p : Point StatusVal,
    (p.quality = .good → usedStatus p = p.value) ∧
    (p.quality = .stale → usedStatus p = p.held) ∧
    (p.quality = .failed → usedStatus p = .invalid) ∧
    (p.quality = .restoring → p.origin = some .stale → usedStatus p = p.held) ∧
    (p.quality = .restoring → p.origin = some .failed → usedStatus p = .invalid) ∧
    (∀ v, p.quality = .substituted → p.subst = some v → usedStatus p = v))

/-- SITE_SAMPLES_TAKEN (R2, R3, R5, R16 to R18): a frame that passes the sequence filter gives each point of the site
that it names one sample, after the expiries that are due, and no other point anything, with the reports and the one
batch of notices of the event, and a preparation follows each event (R21, R50, R95); any other frame changes no point
and leaves the preparation. The order of reports and notices of several points is log 61 (DESIGN CHOICE). -/
def Obligations.SiteSamples : Prop :=
  ∀ (s : State) (c : Fin 8) (f : RxFrame), s.isDelivered c .pointStore f →
    let site := f.header.address
    let content := readSiteFrame f.header.kind (bytesToWords f.payload)
    let seq := item s.points.seq site ⟨0, true, false⟩
    let passes (n : Byte) : Prop :=
      seq.reach = true ∧ (seq.resync = true ∨ 1 ≤ (n - seq.last).toNat ∧ (n - seq.last).toNat ≤ 127)
    let parts : List Part := [.preparation, .points, .engineWork, .channels, .reports, .messages]
    (∀ n pairs, content = some (.telemetry n pairs) → passes n →
      ∃ t, exec (.siteSamplesTaken c) s = .next t ∧
        t.points.seq = put s.points.seq site { seq with last := n, resync := false } ∧
        t.points.status = s.points.status ∧
        (∀ a d p, rec? s.points.analog a = some p → s.analogDef a = some d →
          (∀ k v before after, d.source = .slot site k → pairs = before ++ (k, v) :: after →
            (∀ x ∈ after, x.1 ≠ k) → rec? t.points.analog a = some
              ((p.expire s.now d.staleness).sample s.now d.restoreNeeded (clampSample d v).1
                (clampSample d v).2 false)) ∧
          ((∀ k, d.source = .slot site k → ∀ x ∈ pairs, x.1 ≠ k) → rec? t.points.analog a = some p)) ∧
        s.samplesTold t (fun a => ∃ d k v, s.analogDef a = some d ∧ d.source = .slot site k ∧ (k, v) ∈ pairs) ∧
        onlyChanges parts s t) ∧
    (∀ n slots, content = some (.statusReply n slots) → passes n →
      ∃ t, exec (.siteSamplesTaken c) s = .next t ∧
        t.points.seq = put s.points.seq site { seq with last := n, resync := false } ∧
        t.points.analog = s.points.analog ∧
        (∀ a d p, rec? s.points.status a = some p → s.statusDef a = some d →
          (∀ k b, d.source = .slot site k → slots[k]? = some b →
            let v := (statusOf b.toNat).getD .invalid
            rec? t.points.status a = some ((p.expire s.now d.staleness).sample s.now d.restoreNeeded v
              false (decide (v = .invalid)))) ∧
          ((∀ k, d.source ≠ .slot site k) → rec? t.points.status a = some p)) ∧
        s.samplesTold t (fun n => ∃ a d k, n = 64 + a ∧ s.statusDef a = some d ∧ d.source = .slot site k ∧
          k < slots.length) ∧
        onlyChanges parts s t) ∧
    (∀ n x, content = some (.telemetry n x) → ¬passes n → ∃ t, exec (.siteSamplesTaken c) s = .next t ∧
      s.frameTaken c .pointStore f t) ∧
    (∀ n x, content = some (.statusReply n x) → ¬passes n → ∃ t, exec (.siteSamplesTaken c) s = .next t ∧
      s.frameTaken c .pointStore f t)

/-- POINT_PUT (R4, R5, R16 to R18): every named LOCAL point takes the last value named for it as one sample, with the
reports and the one batch of notices of the event, a preparation follows each event (R21, R50, R95), and the reply
gives quality and recorded value for each pair; a request with a fault in it changes nothing but the port. The order
of reports and notices of several points is log 61 (DESIGN CHOICE). -/
def Obligations.PointPut : Prop :=
  ∀ (s : State) (r : Request) (pairs : List (Word × Word)), s.isNext r → r.kind = 0x2B →
    r.words = BitVec.ofNat 16 pairs.length :: pairs.flatMap (fun x => [x.1, x.2]) →
    pairs.length < 65536 →
    let inRange := 1 ≤ pairs.length ∧ pairs.length ≤ 16 ∧ ∀ x ∈ pairs, x.1.toNat ≤ 191
    let allLocal := ∀ x ∈ pairs, s.isLocal x.1.toNat = true
    let coded := ∀ x ∈ pairs, 64 ≤ x.1.toNat → (statusOf x.2.toNat).isSome = true
    (inRange → allLocal → coded →
      ∃ t, exec .pointPut s = .next (t.replyTo r .none
          (pairs.flatMap (fun x => x.1 :: t.pointWords x.1.toNat))) ∧
        t.points.seq = s.points.seq ∧
        (∀ a d p, rec? s.points.analog a = some p → s.analogDef a = some d →
          (∀ n w before after, pairs = before ++ (n, w) :: after → n.toNat = a →
            (∀ x ∈ after, x.1.toNat ≠ a) → rec? t.points.analog a = some
              ((p.expire s.now d.staleness).sample s.now d.restoreNeeded (clampSample d w.toInt).1
                (clampSample d w.toInt).2 false)) ∧
          ((∀ x ∈ pairs, x.1.toNat ≠ a) → rec? t.points.analog a = some p)) ∧
        (∀ a d p, rec? s.points.status a = some p → s.statusDef a = some d →
          (∀ n w v before after, pairs = before ++ (n, w) :: after → n.toNat = 64 + a →
            (∀ x ∈ after, x.1.toNat ≠ 64 + a) → statusOf w.toNat = some v →
            rec? t.points.status a = some ((p.expire s.now d.staleness).sample s.now d.restoreNeeded v
              false (decide (v = .invalid)))) ∧
          ((∀ x ∈ pairs, x.1.toNat ≠ 64 + a) → rec? t.points.status a = some p)) ∧
        s.samplesTold t (fun n => ∃ x ∈ pairs, x.1.toNat = n) ∧
        onlyChanges [.preparation, .points, .engineWork, .reports, .messages] s t) ∧
    (¬inRange → exec .pointPut s = .next (s.replyTo r .outOfRange [])) ∧
    (inRange → ¬allLocal → exec .pointPut s = .next (s.replyTo r .noItem [])) ∧
    (inRange → allLocal → ¬coded → exec .pointPut s = .next (s.replyTo r .outOfRange []))

/-- POINT_SUBST and POINT_RELEASE (R12, R13): on an analog point 0 to 63 and on a status point, numbered from
64; the event's report and notices, with the preparation that follows it (R21, R50, R95), and quality and used value in
the reply. How a value without a code is answered is the model's (log 31, DEDUCED). -/
def Obligations.SubstituteAndRelease : Prop :=
  ∀ (s : State) (r : Request) (index : Word), s.isNext r →
    let parts : List Part := [.preparation, .points, .engineWork, .reports, .messages]
    let a := index.toNat
    let b := index.toNat - 64
    (∀ w, r.kind = 0x2C → r.words = [index, w] →
      (191 < a → exec .pointSubst s = .next (s.replyTo r .outOfRange [])) ∧
      (∀ p d, a < 64 → rec? s.points.analog a = some p → s.analogDef a = some d →
        (d.lo ≤ w.toInt ∧ w.toInt ≤ d.hi → ∃ t, exec .pointSubst s = .next (t.replyTo r .none [6, w]) ∧
          s.analogMoved t a d p (p.substitute w.toInt) ∧ onlyChanges parts s t) ∧
        (w.toInt < d.lo ∨ d.hi < w.toInt →
          exec .pointSubst s = .next (s.replyTo r .outOfRange []))) ∧
      (∀ p, 64 ≤ a → a ≤ 191 → rec? s.points.status b = some p →
        (∀ v, statusOf w.toNat = some v → v ≠ .invalid →
          ∃ t, exec .pointSubst s = .next (t.replyTo r .none [6, w]) ∧
            s.statusMoved t b p (p.substitute v) ∧ onlyChanges parts s t) ∧
        (statusOf w.toNat = some .invalid → exec .pointSubst s = .next (s.replyTo r .outOfRange []))) ∧
      (a < 64 → rec? s.points.analog a = none → exec .pointSubst s = .next (s.replyTo r .noItem [])) ∧
      (64 ≤ a → a ≤ 191 → rec? s.points.status b = none →
        exec .pointSubst s = .next (s.replyTo r .noItem []))) ∧
    (r.kind = 0x2D → r.words = [index] →
      (191 < a → exec .pointRelease s = .next (s.replyTo r .outOfRange [])) ∧
      (∀ p d, a < 64 → rec? s.points.analog a = some p → s.analogDef a = some d →
        let q := p.release s.now d.staleness (s.sourceLost d.source) false
        (p.quality = .substituted → ∃ t, exec .pointRelease s =
            .next (t.replyTo r .none (wordOf (qualityCode q.quality) :: usedWords (usedAnalog d q))) ∧
          s.analogMoved t a d p q ∧ onlyChanges parts s t) ∧
        (p.quality ≠ .substituted → exec .pointRelease s = .next (s.replyTo r .badState []))) ∧
      (∀ p d, 64 ≤ a → a ≤ 191 → rec? s.points.status b = some p → s.statusDef b = some d →
        let q := p.release s.now d.staleness (s.sourceLost d.source) (decide (p.value = .invalid))
        (p.quality = .substituted → ∃ t, exec .pointRelease s =
            .next (t.replyTo r .none
              [wordOf (qualityCode q.quality), wordOf (statusCode (usedStatus q))]) ∧
          s.statusMoved t b p q ∧ onlyChanges parts s t) ∧
        (p.quality ≠ .substituted → exec .pointRelease s = .next (s.replyTo r .badState []))) ∧
      (a < 64 → rec? s.points.analog a = none → exec .pointRelease s = .next (s.replyTo r .noItem [])) ∧
      (64 ≤ a → a ≤ 191 → rec? s.points.status b = none →
        exec .pointRelease s = .next (s.replyTo r .noItem [])))

/-- STALENESS_EXPIRY, FAILURE_LIMIT_EXPIRY and POINTS_SITE_REACHABILITY (R7, R11): an expiry that is due moves its one
point; a lost site fails its points together, as one event with its reports and one batch of notices (R16 to R18), and
sets its resync flag, a found one changes no point. A preparation follows each event (R21, R50, R95), and an expiry
that is due under the staged definition alone (log 37: DEDUCED). The order of those reports and notices is log 61
(DESIGN CHOICE). -/
def Obligations.ExpiriesAndLostSites : Prop :=
  (∀ (s : State) (a : Fin 64) (n : Fin 192) (p : Point Int) (d : AnalogDef), n.val = a.val →
    rec? s.points.analog a = some p → s.analogDef a = some d →
    let age := (s.now - p.lastSample).toNat
    let parts : List Part := [.preparation, .points, .engineWork, .reports, .messages]
    (p.quality = .good ∨ p.quality = .limited ∨ p.quality = .restoring → 10 * d.staleness < age →
      ∃ t, exec (.stalenessExpiry n) s = .next t ∧ onlyChanges parts s t ∧
        s.analogMoved t a d p { p with quality := .stale, progress := 0, origin := none }) ∧
    (p.quality = .stale → 40 * d.staleness < age →
      ∃ t, exec (.failureLimitExpiry n) s = .next t ∧ onlyChanges parts s t ∧
        s.analogMoved t a d p { p with quality := .failed, progress := 0, origin := none }) ∧
    (age ≤ 10 * d.staleness → exec (.stalenessExpiry n) s = .next s.refreshPreparation ∧
      exec (.failureLimitExpiry n) s = .next s.refreshPreparation)) ∧
  (∀ (s : State) (a : Fin 128) (n : Fin 192) (p : Point StatusVal) (d : StatusDef), n.val = 64 + a.val →
    rec? s.points.status a = some p → s.statusDef a = some d →
    let age := (s.now - p.lastSample).toNat
    let parts : List Part := [.preparation, .points, .engineWork, .reports, .messages]
    (p.quality = .good ∨ p.quality = .limited ∨ p.quality = .restoring → 10 * d.staleness < age →
      ∃ t, exec (.stalenessExpiry n) s = .next t ∧ onlyChanges parts s t ∧
        s.statusMoved t a p { p with quality := .stale, progress := 0, origin := none }) ∧
    (p.quality = .stale → 40 * d.staleness < age →
      ∃ t, exec (.failureLimitExpiry n) s = .next t ∧ onlyChanges parts s t ∧
        s.statusMoved t a p { p with quality := .failed, progress := 0, origin := none }) ∧
    (age ≤ 10 * d.staleness → exec (.stalenessExpiry n) s = .next s.refreshPreparation ∧
      exec (.failureLimitExpiry n) s = .next s.refreshPreparation)) ∧
  (∀ (s : State) (site : Fin 16) (reach : Bool),
    s.isFirst (fun m => (pointsReach? site m).isSome) (.pointsReach site reach) →
    let seq := item s.points.seq site ⟨0, true, false⟩
    ∃ t, exec (.pointsSiteReachability site) s = .next t ∧
      t.points.seq = put s.points.seq site
        { seq with reach := reach, resync := seq.resync || !reach } ∧
      (∀ a d p, rec? s.points.analog a = some p → s.analogDef a = some d →
        (∀ k, reach = false → d.source = .slot site k → rec? t.points.analog a = some p.siteLost) ∧
        (reach = true ∨ (∀ k, d.source ≠ .slot site k) → rec? t.points.analog a = some p)) ∧
      (∀ a d p, rec? s.points.status a = some p → s.statusDef a = some d →
        (∀ k, reach = false → d.source = .slot site k → rec? t.points.status a = some p.siteLost) ∧
        (reach = true ∨ (∀ k, d.source ≠ .slot site k) → rec? t.points.status a = some p)) ∧
      s.eventsTold t [t.points] ∧
      (reach = false → s.preparationFollows t [t.points]) ∧
      (reach = true → Part.preparation.same s t ∧ Part.engineWork.same s t) ∧
      onlyChanges [.preparation, .points, .engineWork, .reports, .messages] s t)

/-! ## Contingencies (chapter 2) -/

/-- INDICATION_TAKEN and CHECK_POINT_MESSAGES (R23 to R29, R32, R34): which terms an event gives evidence, how a term
is judged, what the event leaves of every contingency, and what it tells of entries to PENDING and departures; the
CONTINGENCY_DETECTED report word by word (R36). In PENDING, evidence for a flag already set has no effect. A HELD
contingency takes no evidence, and is judged for clearing where each of its terms has a check point and the batch
names one; hand-offs that await their answer stand (log 39: DEDUCED). -/
def Obligations.EvidenceOfAnEvent : Prop :=
  (∀ (site : Nat) (codes : List Nat) (d : ContingencyDef) (j : Nat),
    j ∈ (indicationEvidence site codes d).indication ↔
      ∃ term code, d.terms[j]? = some term ∧ term.indication = some (site, code) ∧ code ∈ codes) ∧
  (∀ (batch : List CheckMsg) (d : ContingencyDef) (j : Nat), j ∈ (checkEvidence batch d).check ↔
    ∃ term p old, d.terms[j]? = some term ∧ term.check = some p ∧
      .transition p old term.outage .good ∈ batch) ∧
  (∀ (s : State) (batch : List CheckMsg) (fresh : Bool) (term : TermDef) (x : TermRec),
    let judged (m : ConfirmMode) := s.judgeTerm m batch fresh term x
    let some? (b : Bool) := { x with satisfied := b }
    (x.satisfied = true → ∀ m, judged m = x) ∧
    (x.satisfied = false →
      judged .any = some? (x.indicationSeen.isSome || x.checkSeen.isSome) ∧
      (∀ i, term.indication = some i → term.check = none →
        judged .both = some? x.indicationSeen.isSome) ∧
      (term.indication = none → judged .both = some? x.checkSeen.isSome) ∧
      (∀ i p, term.indication = some i → term.check = some p →
        let doubted := (fresh = true ∧ s.statusQuality p ≠ .good) ∨
          ∃ q v u, .quality p q v u ∈ batch ∧ q ≠ .good
        (x.indicationSeen.isSome = true → x.checkSeen.isSome = true → judged .both = some? true) ∧
        (x.indicationSeen.isSome = true → x.checkSeen = none → doubted →
          judged .both = { x with satisfied := true, degraded := true }) ∧
        (x.indicationSeen.isSome = true → x.checkSeen = none → ¬doubted → judged .both = x) ∧
        (x.indicationSeen = none → judged .both = x)))) ∧
  (∀ (e : Evidence) (x : Contingency),
    let unset (flag : TermRec → Option Time) (j : Nat) := ∀ y, x.terms[j]? = some y → flag y = none
    (x.state ≠ .pending → e.news x = e) ∧
    (x.state = .pending → ∀ j,
      (j ∈ (e.news x).indication ↔ j ∈ e.indication ∧ unset TermRec.indicationSeen j) ∧
      (j ∈ (e.news x).check ↔ j ∈ e.check ∧ unset TermRec.checkSeen j))) ∧
  (∀ (s : State) (c : Fin 8) (f : RxFrame) (codes : List Nat), s.isDelivered c .detector f →
    readSiteFrame f.header.kind (bytesToWords f.payload) = some (.indication codes) →
    ∃ t, exec (.indicationTaken c) s = .next t ∧ mailKept s t ∧ s.pendingTold t ∧
      (∀ k d x, s.contingencyDef k = some d → s.contingency? k = some x →
        let e := indicationEvidence f.header.address codes d
        (x.state = .held ∨ x.state = .clear ∧ e.indication = [] → t.contingency? k = some x) ∧
        (x.state = .pending ∨ x.state = .clear ∧ e.indication ≠ [] → s.evidenceTaken t k d x [] e)) ∧
      onlyChanges [.contingencies, .channels, .reports, .messages] s t) ∧
  (∀ (s : State) (batch : List CheckMsg),
    s.isFirst (fun m => (checkPoint? m).isSome) (.checkPoint batch) →
    ∃ t, exec .checkPointMessages s = .next t ∧ s.pendingTold t ∧
      (∀ k d x, s.contingencyDef k = some d → s.contingency? k = some x →
        let e := checkEvidence batch d
        let judged := d.terms.all (fun a => a.check.isSome) = true ∧ batch.any (namesCheck d) = true
        (x.state = .held → ¬judged → t.contingency? k = some x) ∧
        (x.state = .held → judged → t.contingency? k = some (
          if s.clearingHolds d = false then { x with clearReady := false }
          else if x.liveCount = 0 then x.nowClear else { x with clearReady := true })) ∧
        (x.state = .clear → e.check = [] → t.contingency? k = some x) ∧
        (x.state = .pending ∨ x.state = .clear ∧ e.check ≠ [] → s.evidenceTaken t k d x batch e)) ∧
      onlyChanges [.contingencies, .reports, .messages] s t)

/-- WINDOW_EXPIRY, HAND_OFF_ANSWER, EXECUTION_END_NOTICE and CONTINGENCY_RESET (R28, R29, R31 to R36, R121): the
record they leave, the messages sent, and the CONTINGENCY_UNCONFIRMED report word by word. A window can expire from
the moment corridor time reaches its end (log 55: DEDUCED); hand-offs that await their answer stand at a clearing (log
39: DEDUCED). -/
def Obligations.ContingencyEnds : Prop :=
  (∀ (s : State) (k : Fin 32) (x : Contingency) (ends : Time), s.contingency? k = some x →
    x.state = .pending → x.windowEnd = some ends →
    let u := { s with detector := put s.detector k (some { x.nowClear with requests := [] }) }
    let quiet := u.anyPending = false ∧ u.anyAwaiting = false
    (Time.reached s.now ends = true → ∃ t, exec (.windowExpiry k) s = .next t ∧ t.detector = u.detector ∧
      (∃ more, t.inflight = s.inflight ++ x.requests.map .freezeRel ++ .pendingNote u.anyPending :: more ∧
        (quiet → more = [.quiescence]) ∧ (¬quiet → more = [])) ∧
      (∃ w, unconfirmedWord w x.terms ∧
        let first := x.firstEvidence.getD s.now
        reportsOffered [mkReport .contingencyUnconfirmed false s.now k
          [first.extractLsb' 16 16, first.extractLsb' 0 16, w]] s t) ∧
      onlyChanges [.contingencies, .reports, .messages] s t) ∧
    (Time.reached s.now ends = false → exec (.windowExpiry k) s = .next s)) ∧
  (∀ (s : State) (sch : Fin 16) (k : Nat) (started : Bool) (x : Contingency),
    s.isFirst (detectorLane sch) (.handOffAnswer k sch started) → s.contingency? k = some x →
    let y := { x with
      awaiting := x.awaiting.erase sch.val, requests := x.requests.erase sch.val
      liveCount := if started then x.liveCount + 1 else x.liveCount }
    let u := { s.without (detectorLane sch) with detector := put s.detector k (some y) }
    let quiet := y.awaiting = [] ∧ u.anyPending = false ∧ u.anyAwaiting = false
    (quiet → exec (.handOffAnswer sch) s = .next (u.sendAll [.freezeRel sch, .quiescence])) ∧
    (¬quiet → exec (.handOffAnswer sch) s = .next (u.sendAll [.freezeRel sch]))) ∧
  (∀ (s : State) (sch : Fin 16) (k : Nat) (x : Contingency),
    s.isFirst (detectorLane sch) (.execEnd k sch) → s.contingency? k = some x →
    let u := s.without (detectorLane sch)
    ((∃ m, .schemeEnd sch m ∈ s.inflight) → exec (.executionEndNotice sch) s = .next s) ∧
    ((∀ m, .schemeEnd sch m ∉ s.inflight) → exec (.executionEndNotice sch) s =
      .next (u.setContingency k (if x.liveCount ≤ 1 ∧ x.state = .held ∧ x.clearReady = true
        then { x.nowClear with liveCount := 0 } else { x with liveCount := x.liveCount - 1 })))) ∧
  (∀ (s : State) (r : Request) (w : Word), s.isNext r → r.kind = 0x29 → r.words = [w] →
    (32 ≤ w.toNat → exec .contingencyReset s = .next (s.replyTo r .outOfRange [])) ∧
    (w.toNat < 32 → s.contingency? w.toNat = none →
      exec .contingencyReset s = .next (s.replyTo r .noItem [])) ∧
    (∀ x, w.toNat < 32 → s.contingency? w.toNat = some x →
      (x.state = .held → x.liveCount = 0 → exec .contingencyReset s =
        .next ((s.setContingency w.toNat x.nowClear).replyTo r .none [3, 1])) ∧
      (x.state = .clear → exec .contingencyReset s = .next (s.replyTo r .none [1, 1])) ∧
      (x.state = .pending ∨ x.state = .held ∧ x.liveCount ≠ 0 →
        exec .contingencyReset s = .next (s.replyTo r .badState []))))

/-! ## The Action Pool (chapter 5) -/

/-- ACTION_SET BLOCK and RESTORE (R76, R83, R84): the action's new availability and block cause, one rescan request
for each eligible scheme where the availability changes, a preparation's staged views (R95), and the refusals. Which
row takes a code outside the table: log 7 (DESIGN CHOICE). -/
def Obligations.ActionSet : Prop :=
  ∀ (s : State) (r : Request) (w : Word), s.isNext r → r.kind = 0x2A → r.words = [w] →
    let a := hi w
    let both (p : Instr → Prop) := (lo w = 1 → p .actionSetBlock) ∧ (lo w = 2 → p .actionSetRestore)
    (96 ≤ a → both (fun c => exec c s = .next (s.replyTo r .outOfRange []))) ∧
    (a < 96 → s.actionDef a = none → both (fun c => exec c s = .next (s.replyTo r .noItem []))) ∧
    (∀ d x, a < 96 → s.actionDef a = some d → s.action? a = some x →
      let becomes (c : Instr) (y : Action) : Prop :=
        ∃ t, exec c s = .next (t.replyTo r .none [wordOf (availabilityCode y.avail), wordOf y.credit]) ∧
          t.pool.actions = put s.pool.actions a (some y) ∧
          (x.avail ≠ y.avail → ∀ i < 16, d.eligible.getLsbD i = true → .rescan i .pool ∈ t.inflight) ∧
          s.stagedFollowed t ∧ mailKept s t ∧ onlyChanges [.preparation, .actions, .messages] s t
      (lo w = 0 ∨ 2 < lo w → exec .actionSetBlock s = .next (s.replyTo r .outOfRange []) ∧
        exec .actionSetRestore s = .next (s.replyTo r .outOfRange [])) ∧
      (x.avail = .committed → both (fun c => exec c s = .next (s.replyTo r .badState []))) ∧
      (lo w = 1 → x.avail ≠ .committed → becomes .actionSetBlock { x with
        avail := .blocked, blockCause := some .host
        stateTime := if x.avail = .blocked then x.stateTime else s.now }) ∧
      (lo w = 2 → x.avail = .blocked ∨ x.avail = .tripped ∨ x.avail = .uncertain →
        becomes .actionSetRestore { x with
          avail := reevaluate d (s.poolReach d.site) x.mwQuality x.credit, blockCause := none
          stateTime := s.now }) ∧
      (lo w = 2 → x.avail = .available ∨ x.avail = .unavailableSite ∨ x.avail = .offline →
        exec .actionSetRestore s = .next (s.replyTo r .none
          [wordOf (availabilityCode x.avail), wordOf x.credit])))

/-- Credit and availability of an action (R77, R78); what ACTION_CHANGE_NOTICES and ACTION_SITE_REACHABILITY
make of every action (R76 to R79), with one rescan request for each scheme that a change of availability, or of credit
while AVAILABLE, reaches (R84); what an outcome makes of an action (R81), which OUTCOME_NOTICE applies where no live
order names the action with the serial, and the step that ends a live order where one does (log 5: DEDUCED); and
LATE_CONFIRMATION_NOTICE (R81). In PREPARING the staged views of the actions follow each of these (R95). -/
def Obligations.PoolNotices : Prop :=
  (∀ (d : ActionDef) (used : UsedValue) (q : Quality) (credit : Nat),
    (d.kind = .switch → creditOf d used q = 0) ∧
    (∀ v, d.kind ≠ .switch → d.source = .fixed v → creditOf d used q = v) ∧
    (∀ p v, d.kind ≠ .switch → d.source = .point p → used = .num v →
      q = .good ∨ q = .limited ∨ q = .substituted → (creditOf d used q : Int) = max 0 v) ∧
    (∀ p, d.kind ≠ .switch → d.source = .point p → q = .stale ∨ q = .failed ∨ q = .restoring →
      creditOf d used q = d.minCredit) ∧
    reevaluate d false (some q) credit = .unavailableSite ∧ reevaluate d false none credit = .unavailableSite ∧
    reevaluate d true none credit = .available ∧
    (∀ p, d.kind ≠ .switch → d.source = .point p → q = .good ∨ q = .limited ∨ q = .substituted →
      credit < d.threshold → reevaluate d true (some q) credit = .offline) ∧
    (d.kind = .switch ∨ (∃ v, d.source = .fixed v) ∨ d.threshold ≤ credit ∨ q = .stale ∨ q = .failed ∨
      q = .restoring → reevaluate d true (some q) credit = .available)) ∧
  (∀ (s : State) (batch : List PointNotice),
    s.isFirst (fun m => (actionChange? m).isSome) (.actionChange batch) →
    ∃ t, exec .actionChangeNotices s = .next t ∧
      (∀ a d x, s.actionDef a = some d → s.action? a = some x →
        ((∀ p, d.source = .point p → ∀ n ∈ batch, n.point ≠ p) → t.action? a = some x) ∧
        (∀ p before n after, d.source = .point p → batch = before ++ n :: after → n.point = p →
          (∀ y ∈ before, y.point ≠ p) →
          let credit := creditOf d n.used n.quality
          let v := if x.avail.isHeld then x.avail
            else reevaluate d (s.poolReach d.site) (some n.quality) credit
          t.action? a = some { x with
            mwQuality := some n.quality, credit := credit, avail := v
            stateTime := if x.avail = v then x.stateTime else s.now } ∧
          (x.avail ≠ v → ∀ i < 16, d.eligible.getLsbD i = true → .rescan i .pool ∈ t.inflight))) ∧
      s.rescansSent t ∧ s.stagedFollowed t ∧ onlyChanges [.preparation, .actions, .messages] s t) ∧
  (∀ (s : State) (site : Fin 16) (reach : Bool),
    s.isFirst (fun m => (actionReach? site m).isSome) (.actionReach site reach) →
    ∃ t, exec (.actionSiteReachability site) s = .next t ∧
      t.pool.siteReach = put s.pool.siteReach site reach ∧
      (∀ a d x, s.actionDef a = some d → s.action? a = some x →
        let v := if d.site ≠ site ∨ x.avail.isHeld then x.avail
          else reevaluate d reach x.mwQuality x.credit
        t.action? a = some { x with
          avail := v, stateTime := if x.avail = v then x.stateTime else s.now } ∧
        (x.avail ≠ v → ∀ i < 16, d.eligible.getLsbD i = true → .rescan i .pool ∈ t.inflight)) ∧
      s.rescansSent t ∧ s.stagedFollowed t ∧ onlyChanges [.preparation, .actions, .messages] s t) ∧
  (∀ (s : State) (a : Fin 96) (serial : Nat) (f : FinalState) (m : Mode) (x : Action) (d : ActionDef),
    s.action? a = some x → s.actionDef a = some d →
    let mine := x.avail = .committed ∧ x.lastSerial = some serial
    let v := if m = .service ∧ f = .confirmed then .tripped
      else if m = .service ∧ f = .expired then .uncertain
      else reevaluate d (s.poolReach d.site) x.mwQuality x.credit
    let t := s.applyOutcome a serial f m
    exec (.outcomeNotice a serial f m) s = .next (if s.hasLiveOrder a serial = true then s else t) ∧
    (¬mine → t = s) ∧
    (mine → t.pool.actions = put s.pool.actions a
        (some { x with avail := v, committing := none, stateTime := s.now }) ∧
      (∀ i < 16, d.eligible.getLsbD i = true → .rescan i .pool ∈ t.inflight) ∧
      s.rescansSent t ∧ s.stagedFollowed t ∧ mailKept s t ∧
      onlyChanges [.preparation, .actions, .messages] s t)) ∧
  (∀ (s : State) (o : Order) (f : FinalState) (late mismatch : Bool),
    s.endOrder o f late mismatch =
      ((s.updateOrder o.serial (Order.finish s.now f late mismatch)).send (.liveOrder o.site false)).applyOutcome
        o.action o.serial f (s.modeOf o.scheme)) ∧
  (∀ (s : State) (a : Fin 96) (serial : Nat) (m : Mode) (x : Action), s.action? a = some x →
    s.isFirst (fun y => (lateConfirm? a y).isSome) (.lateConfirm a serial m) →
    let acts := m = .service ∧ x.lastSerial = some serial ∧ x.avail.isHeld = false
    (acts → ∃ t, exec (.lateConfirmationNotice a) s = .next t ∧
      t.pool.actions = put s.pool.actions a (some { x with avail := .tripped, stateTime := s.now }) ∧
      s.rescansSent t ∧ s.stagedFollowed t ∧ onlyChanges [.preparation, .actions, .messages] s t) ∧
    (¬acts → exec (.lateConfirmationNotice a) s =
      .next (s.without (fun y => (lateConfirm? a y).isSome))))

/-! ## The Selection Engine (chapter 5) -/

/-- The notices and requests that the Engine takes (R89 to R92, R94 to R97): what it then holds of the scheme, its
routine, shadow and cover work, and the arm images that a scheme-state notice recomputes. A request for a scan
restarts the running scan, marks a suspended one, leaves a queued one its place, and else adds an entry at the tail.
Where the running scan is abandoned the Engine goes on with its next work (R90; `State.startNext`, which Scans gives
row by row). A cover that the Dispatcher has cancelled is not told as started. The order of several TRUNCATED reports
is log 63 (DESIGN CHOICE). -/
def Obligations.EngineNotices : Prop :=
  ∀ (s : State) (i : Fin 16),
    let lane := evaluatorLane i
    let u := s.without lane
    let known := item s.engine.known i SchemeView.off
    let dropped := s.engine.without (fun k j => decide (k = .routine) && j == i.val)
    let requested (k : PlanKind) (c : Instr) (v : State) : Prop :=
      let e := s.engine
      let fresh : Scan := .plan ⟨k, i, .mandatory 0, [], [], s.scanRequirement k i, false⟩
      let leaves (x : Engine) : Prop := exec c s = .next { v with engine := x }
      (e.runs k i = true → leaves { e with running := some fresh }) ∧
      (e.runs k i = false → e.suspends k i = true →
        leaves { e with suspended := e.suspended.map (fun x => { x with restart := true }) }) ∧
      (e.runs k i = false → e.suspends k i = false → e.queues k i = true → leaves e) ∧
      (e.hasWork k i = false → e.running.isSome = true → leaves { e with queue := e.queue ++ [⟨k, i⟩] }) ∧
      (e.hasWork k i = false → e.running = none → e.cover = [] → e.suspended = none → e.queue = [] →
        leaves { e with running := some fresh }) ∧
      ∃ t, exec c s = .next t ∧ t.engine.hasWork k i = true ∧ onlyChanges [.engineWork, .messages] s t
    (∀ enable arm mode, s.isFirst lane (.schemeState i enable arm mode) →
      let views := put s.engine.known i ⟨enable, arm, mode, known.frozen⟩
      ∃ t, exec (.schemeStateNotice i) s = .next t ∧
        (enable = false ∨ arm = .disarmed ∨ arm = .latched →
          State.wentOn { u with engine := { dropped with known := views } } t) ∧
        (enable = true → arm ≠ .disarmed → arm ≠ .latched →
          Part.engineWork.same { u with engine := { s.engine with known := views } } t) ∧
        s.imagesRefreshed t ∧ reportsOffered (s.truncatedReports t) s t ∧
        onlyChanges [.engineWork, .images, .channels, .links, .reports, .messages] s t) ∧
    (s.isFirst lane (.freezeNote i) →
      let views := put s.engine.known i { known with frozen := true }
      (s.engine.hasWork .routine i = true → exec (.freezeNotice i) s = .next (State.startNext { u with
        engine := { dropped with known := views, held := put s.engine.held i true } })) ∧
      (s.engine.hasWork .routine i = false → exec (.freezeNotice i) s = .next { u with
        engine := { s.engine with known := views } })) ∧
    (s.isFirst lane (.freezeRelNote i) → exec (.freezeReleaseNotice i) s = .next { u with
      engine := { s.engine with
        held := put s.engine.held i false, known := put s.engine.known i { known with frozen := false } } }) ∧
    (∀ src, s.isFirst (rescanLane i src) (.rescan i src) →
      let v := s.without (rescanLane i src)
      (known.frozen = true ∨ known.arm = .executing → exec (.rescanRequest i src) s =
        .next { v with engine := { s.engine with held := put s.engine.held i true } }) ∧
      (known.frozen = false → known.arm ≠ .executing → known.enable = false ∨ known.arm = .disarmed ∨
        known.arm = .latched → exec (.rescanRequest i src) s = .next v) ∧
      (known.frozen = false → known.enable = true →
        known.arm = .arming ∨ known.arm = .armed ∨ known.arm = .disarming →
        requested .routine (.rescanRequest i src) v)) ∧
    (s.isFirst (fun m => (requeueFor i m).isSome) (.shadowRequeue i) →
      let v := s.without (fun m => (requeueFor i m).isSome)
      (s.banks.switch = .preparing → requested .shadow (.shadowRequeue i) v) ∧
      (s.banks.switch ≠ .preparing → exec (.shadowRequeue i) s = .next v)) ∧
    (∀ deficit, s.isFirst (coverLane i) (.coverReq i deficit) →
      let v := s.without (coverLane i)
      let starts (e : Engine) : State :=
        { v with
          engine := { e with running := some (.cover ⟨i, deficit, 0, []⟩) }
          inflight := v.inflight ++ if .coverCancel i ∈ s.inflight then [] else [.coverStarted i] }
      (∀ x, s.engine.running = some (.cover x) → exec (.coverRequest i) s =
        .next { v with engine := { s.engine with cover := s.engine.cover ++ [⟨i, deficit⟩] } }) ∧
      (∀ p, s.engine.running = some (.plan p) → s.engine.cover = [] → exec (.coverRequest i) s =
        .next (starts { s.engine with suspended := some ⟨p, false⟩ })) ∧
      (s.engine.running = none → s.engine.cover = [] → exec (.coverRequest i) s =
        .next (starts s.engine))) ∧
    (s.isFirst (coverLane i) (.coverCancel i) →
      let left (running : Option Scan) : State := { s.without (coverLane i) with engine := { s.engine with
        cover := s.engine.cover.filter (fun r => r.scheme != i), running := running } }
      (∀ x, s.engine.running = some (.cover x) → x.scheme = i →
        exec (.coverCancel i) s = .next (left none).startNext) ∧
      ((∀ x, s.engine.running = some (.cover x) → x.scheme ≠ i) →
        exec (.coverCancel i) s = .next (left s.engine.running).startNext))

/-- Scans (R85 to R88, R90, R91, R93, R95): what the Engine starts next where no scan runs, the oldest cover request
first, else the suspended scan, resumed or restarted, else the head of the queue; the requirement of a scan that
starts, where the scheme's record or its prepared record is there (else a free value: logs 43 and 56, DESIGN CHOICE);
the candidate order; what a scan does with the action it examines; the tests between two actions; the scan steps, with
the publication of a routine scan's selection, the shadow selection of a shadow scan, and the hand-over of a cover
scan's list, each followed by what the Engine starts next. A set of actions that stays the same is not reported; a
routine scan of a scheme whose freeze has begun waits (log 49: DEDUCED); a cover that is cancelled hands nothing over
(R94, R120). One examination per step is log 24 (DEDUCED), and SELECTION_CHANGE before the reports of images log 23
(DESIGN CHOICE). -/
def Obligations.Scans : Prop :=
  (∀ s : State,
    let e := s.engine
    let fresh (k : PlanKind) (i : Nat) : Scan := .plan ⟨k, i, .mandatory 0, [], [], s.scanRequirement k i, false⟩
    (∀ x, e.running = some x → s.startNext = s) ∧
    (∀ r rest, e.running = none → e.cover = r :: rest → s.startNext = { s with
      engine := { e with cover := rest, running := some (.cover ⟨r.scheme, r.deficit, 0, []⟩) }
      inflight := s.inflight ++ if .coverCancel r.scheme ∈ s.inflight then [] else [.coverStarted r.scheme] }) ∧
    (∀ x, e.running = none → e.cover = [] → e.suspended = some x →
      let restarts := x.restart = true ∨
        ∃ a ∈ x.scan.list, ∀ credit, s.scanAction x.scan.kind a.action ≠ some (.available, credit)
      let runs (scan : Scan) : Prop :=
        s.startNext = { s with engine := { e with suspended := none, running := some scan } }
      (restarts → runs (fresh x.scan.kind x.scan.scheme)) ∧ (¬restarts → runs (.plan x.scan))) ∧
    (e.running = none → e.cover = [] → e.suspended = none →
      (e.queue = [] → s.startNext = s) ∧
      (∀ q rest, e.queue = q :: rest → s.startNext = { s with
        engine := { e with queue := rest, running := some (fresh q.kind q.scheme) } }))) ∧
  (∀ (s : State) (i : Nat),
    (∀ x r, s.scheme? i = some x → x.record = some r → s.scanRequirement .routine i = r.requirement) ∧
    (∀ r, rec? s.evaluator.prepared i = some r → s.scanRequirement .shadow i = r.requirement)) ∧
  (∀ (b : Bank) (i : Nat),
    let mandatory := ((rec? b.scheme i).map SchemeDef.mandatory).getD []
    (∀ a, a ∈ candidateOrder b i ↔
      ∃ d, rec? b.action a = some d ∧ d.eligible.getLsbD i = true ∧ a ∉ mandatory) ∧
    (candidateOrder b i).Pairwise (fun a c => ∀ d e, rec? b.action a = some d → rec? b.action c = some e →
      d.rank < e.rank ∨ d.rank = e.rank ∧ a < c)) ∧
  (∀ (s : State) (p : PlanScan) (n a : Nat),
    let add (credit : Nat) (phase : ScanPhase) := { p with
      list := p.list ++ [⟨a, credit⟩], phase := phase }
    (p.phase = .mandatory n → (s.scanMandatory p)[n]? = some a →
      (∀ credit, s.scanAction p.kind a = some (.available, credit) →
        s.examine p = add credit (.mandatory (n + 1))) ∧
      ((∀ credit, s.scanAction p.kind a ≠ some (.available, credit)) →
        s.examine p = { p with missing := true, phase := .mandatory (n + 1) })) ∧
    (p.phase = .pass1 n → (s.scanCandidates p)[n]? = some a →
      let allowance := s.scanOvershoot p
      (∀ credit, s.scanAction p.kind a = some (.available, credit) →
        allowance = 0 ∨ p.sum + credit ≤ p.requirement + allowance →
        s.examine p = add credit (.pass1 (n + 1))) ∧
      (∀ credit, s.scanAction p.kind a = some (.available, credit) → 0 < allowance →
        p.requirement + allowance < p.sum + credit →
        s.examine p = { p with skipped := p.skipped ++ [a], phase := .pass1 (n + 1) }) ∧
      ((∀ credit, s.scanAction p.kind a ≠ some (.available, credit)) →
        s.examine p = { p with phase := .pass1 (n + 1) })) ∧
    (p.phase = .pass2 n → p.skipped[n]? = some a →
      (∀ credit, s.scanAction p.kind a = some (.available, credit) →
        s.examine p = add credit (.pass2 (n + 1))) ∧
      ((∀ credit, s.scanAction p.kind a ≠ some (.available, credit)) →
        s.examine p = { p with phase := .pass2 (n + 1) }))) ∧
  (∀ (s : State) (p : PlanScan),
    let e := s.settleScan p
    (∀ n, p.phase = .mandatory n → n < (s.scanMandatory p).length → e = (p, none)) ∧
    (∀ n, p.phase = .mandatory n → (s.scanMandatory p).length ≤ n →
      e = s.settleScan { p with phase := .pass1 0 }) ∧
    (∀ n, p.phase = .pass1 n → n < (s.scanCandidates p).length → e = (p,
      if 24 ≤ p.list.length then some .full else if p.requirement ≤ p.sum then some .sufficient else none)) ∧
    (∀ n, p.phase = .pass1 n → (s.scanCandidates p).length ≤ n →
      (p.requirement ≤ p.sum → e = (p, some .sufficient)) ∧
      (p.sum < p.requirement → p.skipped = [] → e = (p, some .exhausted)) ∧
      (p.sum < p.requirement → p.skipped ≠ [] → e = ({ p with phase := .pass2 0 },
        if 24 ≤ p.list.length then some .full else none))) ∧
    (∀ n, p.phase = .pass2 n → n < p.skipped.length → e = (p,
      if 24 ≤ p.list.length then some .full else if p.requirement ≤ p.sum then some .sufficient else none)) ∧
    (∀ n, p.phase = .pass2 n → p.skipped.length ≤ n → e = (p,
      some (if p.requirement ≤ p.sum then .sufficient else .exhausted)))) ∧
  (∀ (s : State) (p q : PlanScan) (e : Termination),
    (s.settleScan p = (q, some e) → s.advanceScan p = (q, some e)) ∧
    (s.settleScan p = (q, none) → s.advanceScan p = s.settleScan (s.examine q))) ∧
  (∀ (s : State) (p q : PlanScan), s.engine.running = some (.plan p) → p.scheme < 16 →
    let command : Instr := if p.kind = .routine then .routineScanStep else .shadowScanStep
    let begun := .freezeReq p.scheme ∈ s.inflight ∨
      ∃ x, s.scheme? p.scheme = some x ∧ (x.frozen = true ∨ x.arm = .executing)
    (p.kind = .routine → begun → exec .routineScanStep s = .next s) ∧
    (s.advanceScan p = (q, none) → p.kind = .shadow ∨ ¬begun →
      exec command s = .next { s with engine := { s.engine with running := some (.plan q) } }) ∧
    (∀ e, s.advanceScan p = (q, some e) →
      let x : Selection := ⟨q.list, q.requirement, q.missing, e, s.now⟩
      let old := selectionActions (rec? s.engine.published p.scheme)
      let actions := q.list.map SelEntry.action
      let change := mkReport .selectionChange false s.now p.scheme
        [wordOf q.requirement, wordCapped q.sum, wordPair q.list.length
          ((if q.sum < q.requirement then 1 else 0) + if q.missing then 2 else 0)]
      (p.kind = .routine → ¬begun → ∃ t, exec .routineScanStep s = .next t ∧
        t.engine.published = put s.engine.published p.scheme (some x) ∧
        (∃ more, (∀ r ∈ more, r.kind ≠ .selectionChange) ∧
          ((∃ a, a ∈ old ∧ a ∉ actions ∨ a ∈ actions ∧ a ∉ old) → reportsOffered (change :: more) s t) ∧
          ((∀ a, a ∈ old ↔ a ∈ actions) → reportsOffered more s t)) ∧
        s.imagesRefreshed t ∧ State.wentOn { s with engine := { s.engine with running := none } } t ∧
        onlyChanges [.engineWork, .selections, .images, .channels, .links, .reports, .messages] s t) ∧
      (p.kind = .shadow → ∃ t, exec .shadowScanStep s = .next t ∧
        t.engine.shadow = put s.engine.shadow p.scheme (some x) ∧
        (s.banks.switch = .preparing → t.shadowDone = true → .shadowComplete ∈ t.inflight) ∧
        State.wentOn { s with engine := { s.engine with running := none } } t ∧
        onlyChanges [.preparation, .engineWork, .messages] s t))) ∧
  (∀ (s : State) (x : CoverScan), s.engine.running = some (.cover x) →
    let candidates := candidateOrder s.banks.active x.scheme
    let sum := sumCredits x.list
    let hands (list : List SelEntry) : Prop := exec .coverScanStep s = .next (State.startNext { s with
      engine := { s.engine with running := none }
      inflight := s.inflight ++
        if .coverCancel x.scheme ∈ s.inflight then [] else [.coverHandover x.scheme list] })
    (x.deficit ≤ sum ∨ candidates.length ≤ x.next → hands x.list) ∧
    (∀ a, sum < x.deficit → candidates[x.next]? = some a →
      let free := s.hasOrder x.scheme a = false
      let y (more : List SelEntry) : CoverScan := { x with next := x.next + 1, list := x.list ++ more }
      let steps (z : CoverScan) : Prop :=
        (sumCredits z.list < z.deficit → z.next < candidates.length → exec .coverScanStep s =
          .next { s with engine := { s.engine with running := some (.cover z) } }) ∧
        (z.deficit ≤ sumCredits z.list ∨ candidates.length ≤ z.next → hands z.list)
      (∀ credit, s.scanAction .routine a = some (.available, credit) → free → steps (y [⟨a, credit⟩])) ∧
      ((∀ credit, s.scanAction .routine a ≠ some (.available, credit)) ∨ ¬free → steps (y []))))

/-- Site arm images (R96, R97): the codes; ARM_ACK_TAKEN with the current version confirms; the reply timeout sends
the image again, up to three sends, on the route's channel or, without a route or where the frame is refused, as a
send that is not answered, and then reports it unconfirmed (NO_ACK 1); a resend of a truncated image makes no further
TRUNCATED report (log 25: DEDUCED). -/
def Obligations.ArmImages : Prop :=
  (∀ (s : State) (site c : Nat), (c ∈ s.imageCodes site ↔ c < 256 ∧ ∃ i v x e d, i < 16 ∧
      item s.engine.known i SchemeView.off = v ∧ v.enable = true ∧ v.mode = .service ∧
      (v.arm = .armed ∨ v.arm = .disarming) ∧ rec? s.engine.published i = some x ∧ e ∈ x.entries ∧
      s.actionDef e.action = some d ∧ d.site = site ∧ d.output = c)) ∧
  (∀ (s : State) (site : Nat), (s.imageCodes site).Pairwise (· < ·)) ∧
  (∀ (s : State) (c : Fin 8) (f : RxFrame) (version : Byte), s.isDelivered c .engine f →
    readSiteFrame f.header.kind (bytesToWords f.payload) = some (.armAck version) →
    f.header.address < 16 →
    let site := f.header.address
    let current := version = (s.image site).version ∧ (s.siteDef site).isSome = true
    (current → ∃ t, exec (.armAckTaken c) s = .next t ∧
      t.engine.images = put s.engine.images site { s.image site with conf := .confirmed } ∧
      onlyChanges [.images, .channels] s t) ∧
    (¬current → ∃ t, exec (.armAckTaken c) s = .next t ∧ s.frameTaken c .engine f t)) ∧
  (∀ (s : State) (site : Fin 16) (n : Nat) (ends : Time), (s.image site).conf = .awaiting n (some ends) →
    (Time.reached s.now ends = false → exec (.armImageReplyTimeout site) s = .next s) ∧
    (Time.reached s.now ends = true → n < 3 → ∃ t, exec (.armImageReplyTimeout site) s = .next t ∧
      s.imageSent t site (n + 1) (s.image site) ∧
      (∀ c, routeChannel (s.site site).route = some c →
        let takes := (s.channel c).state.inService = true ∧ (s.channel c).queue.length < 8
        let frame : TxFrame := .armSet site (s.image site).version ((s.image site).codes.take 32)
        (takes → (t.image site).conf = .awaiting (n + 1) none ∧
          (frame ∈ (t.channel c).queue ∨ (t.channel c).tx.map Sending.frame = some frame)) ∧
        (¬takes → (t.image site).conf =
          .awaiting (n + 1) (some (s.now + BitVec.ofNat 32 (s.replyTimeout c))))) ∧
      onlyChanges [.images, .channels, .links] s t) ∧
    (Time.reached s.now ends = true → 3 ≤ n → exec (.armImageReplyTimeout site) s =
      .next ((s.setImage site { s.image site with conf := .unconfirmed }).report
        (mkReport .armImageUnconfirmed false s.now site
          [wordPair (s.image site).version.toNat 1]))))

/-! ## Executions and trip orders (chapter 6) -/

/-- HAND_OFF (R63, R64, R102 to R104): the start query's answer; NOT_STARTED is reported and answered, STARTED makes
the scheme EXECUTING, answers and reports the start, walks the selection entry by entry, requests cover for what is
missing, judges the end, and leaves an execution record, or its end where it is settled at once. One entry of a walk
(R104 to R106): lost where the table is full, the action is not AVAILABLE or its site has no route (mandatory missing:
log 18, DEDUCED); else the action is COMMITTED, and an order with the next serial is created on the route's channel
with its TRIP frame; where the channel's queue refuses that, attempt 1 is lost at once (R113; cover and end conditions
follow the walk: log 17, DEDUCED). The corridor alert (R71) and a preparation (R163) follow the scheme's change.
ARM_STATE stands before EXECUTION_START (log 23: DESIGN CHOICE). -/
def Obligations.HandOff : Prop :=
  (∀ x : Scheme,
    (x.enable = false → x.queryAnswer = some .off) ∧
    (x.enable = true → x.blocked = true → x.queryAnswer = some .blocked) ∧
    (x.enable = true → x.blocked = false →
      (x.arm = .latched → x.queryAnswer = some .latched) ∧
      (x.arm = .disarmed → x.queryAnswer = some .disarmed) ∧
      (x.arm = .arming → x.queryAnswer = some .arming) ∧
      (x.arm = .armed ∨ x.arm = .disarming → x.queryAnswer = none))) ∧
  (∀ (s : State) (i : Fin 16) (k : Nat) (detect : Time) (degraded : Bool) (x : Scheme) (d : SchemeDef),
    s.isFirst (schemeLane i) (.handOff k i detect degraded) → s.scheme? i = some x →
    s.schemeDef i = some d →
    let u := s.without (schemeLane i)
    let test := decide (x.mode = .test)
    (∀ reason, x.queryAnswer = some reason → exec (.handOff i) s =
      .next ((u.report (mkReport .detectedNotArmed test s.now i
        [wordPair k (notStartedCode reason), detect.extractLsb' 16 16, detect.extractLsb' 0 16,
          wordFlag degraded])).send (.handOffAnswer k i false))) ∧
    (x.queryAnswer = none →
      let selection := rec? s.engine.published i
      let entries := (selection.map Selection.entries).getD []
      let e : Exec :=
        { contingency := k, detectTime := detect, startTime := s.now
          deadline := detect + BitVec.ofNat 32 (d.deadline * 10)
          requirement := (x.record.map EvalRec.requirement).getD 0, mode := x.mode, entriesLost := 0
          cover := .none, recheck := false, exhausted := false, degraded := degraded
          coldStart := selection.isNone, tableFull := false, coverUsed := false
          mandatoryMissing := (selection.map Selection.missing).getD false }
      let y := { x with
        arm := .executing, preExec := some (x.preState s.now), dwell := none, stateTime := s.now }
      let start := mkReport .executionStart test s.now i
        [wordPair k entries.length, wordOf e.requirement, wordCapped (sumCredits entries),
          BitVec.ofNat 16 ((if e.coldStart then 1 else 0) + if degraded then 2 else 0)]
      let begun := (((u.enterExecuting i x).setExec i (some e)).report start).send (.handOffAnswer k i true)
      let walked := (startEntries d selection).foldl
        (fun (w : State) entry => w.walkEntry i (entryOrigin d entry) entry) begun
      (begun.evaluator.schemes = put s.evaluator.schemes i (some y) ∧
        begun.dispatcher.execs = put s.dispatcher.execs i (some e) ∧
        reportsOffered [armStateReport s.now i (armCode x.arm) 3 y, start] s begun ∧
        s.alertFollowed begun ∧ s.carriesFollowed begun (fun j => j = i) ∧
        onlyChanges [.preparation, .schemes, .alert, .engineWork, .executions, .reports, .messages] s begun) ∧
      ∃ t, exec (.handOff i) s = .next t ∧ t = (walked.coverAfterStart i).judgeEnd i ∧
        t.evaluator.schemes = put s.evaluator.schemes i (some y) ∧
        .handOffAnswer k i true ∈ t.inflight ∧
        messagesSent Msg.isSchemeState [.schemeState i true .executing x.mode] s t ∧
        s.alertFollowed t ∧
        (∃ more, reportsOffered ([armStateReport s.now i (armCode x.arm) 3 y, start] ++ more) s t) ∧
        (∀ j, j ≠ i.val → t.exec? j = s.exec? j) ∧
        ((∃ f, t.exec? i = some f ∧ f.contingency = k ∧ f.detectTime = detect ∧ f.startTime = s.now ∧
            f.deadline = e.deadline ∧ f.requirement = e.requirement ∧ f.mode = x.mode ∧
            f.degraded = degraded ∧ f.coldStart = e.coldStart) ∨
          t.exec? i = none ∧ .schemeEnd i x.mode ∈ t.inflight ∧ .execEnd k i ∈ t.inflight) ∧
        onlyChanges [.preparation, .schemes, .alert, .actions, .engineWork, .images, .executions, .orders,
          .channels, .links, .reports, .messages] s t)) ∧
  (∀ (d : SchemeDef) (x : Selection), startEntries d (some x) = x.entries ∧
    startEntries d none = d.mandatory.map (fun a => ⟨a, 0⟩)) ∧
  (∀ (d : SchemeDef) (e : SelEntry), (e.action ∈ d.mandatory → entryOrigin d e = .mandatory) ∧
    (e.action ∉ d.mandatory → entryOrigin d e = .selection)) ∧
  (∀ (s : State) (i : Nat) (x : Exec), s.exec? i = some x →
    let missing := x.requirement - s.standing i
    (missing = 0 → s.coverAfterStart i = s) ∧
    (missing ≠ 0 → s.coverAfterStart i = (s.setExec i (some { x with
      cover := .requested, exhausted := false, recheck := false })).send (.coverReq i missing))) ∧
  (∀ (s : State) (i : Nat) (origin : OrderOrigin) (e : SelEntry) (ex : Exec), s.exec? i = some ex →
    let t := s.walkEntry i origin e
    let lost := { ex with entriesLost := ex.entriesLost + 1 }
    let serial := s.dispatcher.nextSerial
    (48 ≤ s.dispatcher.orders.length → t = s.setExec i (some { lost with tableFull := true })) ∧
    (s.dispatcher.orders.length < 48 → (∀ x, s.action? e.action = some x → x.avail ≠ .available) →
      t = s.setExec i (some { lost with
        mandatoryMissing := ex.mandatoryMissing || decide (origin = .mandatory) })) ∧
    (∀ x d, s.dispatcher.orders.length < 48 → s.action? e.action = some x → x.avail = .available →
      s.actionDef e.action = some d →
      ((s.site d.site).route = .none → t = s.setExec i (some lost)) ∧
      (∀ c, routeChannel (s.site d.site).route = some c →
        let takes := (s.channel c).state.inService = true ∧
          ((s.channel c).queue.length < 8 ∨ ∃ f ∈ (s.channel c).queue, f.isTrip = false)
        let o : Order :=
          { serial := serial, action := e.action, site := d.site, output := d.output, credit := e.credit
            scheme := i, origin := origin, attempt := 1, channel := c, firstChannel := c, state := .queued
            creation := s.now, sendTime := none, timeoutEnd := none, outcomeTime := none, late := false
            mismatch := false }
        let frame : TxFrame := .trip d.site serial d.output i 1 (decide (ex.mode = .test))
        let following := if 65535 ≤ serial then 1 else serial + 1
        ∃ created : State,
          (created.dispatcher.orders = s.dispatcher.orders ++ [o] ∧
            (following ∉ (s.dispatcher.orders ++ [o]).map Order.serial →
              created.dispatcher.nextSerial = following) ∧
            created.pool.actions = put s.pool.actions e.action (some { x with
              avail := .committed, committing := some i, lastSerial := some serial, stateTime := s.now }) ∧
            .liveOrder d.site true ∈ created.inflight ∧ s.rescansSent created ∧ mailKept s created ∧
            onlyChanges [.preparation, .actions, .orders, .messages] s created) ∧
          (takes → (frame ∈ (t.channel c).queue ∨ (t.channel c).tx.map Sending.frame = some frame) ∧
            onlyChanges [.images, .channels, .links] created t) ∧
          (¬takes → created.attemptFollowed t o State.failOrder))))

/-- Timeouts, lost attempts and acknowledgements (R108 to R114, R117, R118). Attempt 1 is rerouted to the site's other
channel where that is usable and takes the frame, and fails otherwise; attempt 2 fails. A failure marks the execution
where a MANDATORY order fails, and is followed by cover and by the end conditions. An acknowledgement acts by the
state of the order it matches; one that matches none is offered to the pool as a stray. A loss takes the orders of its
channel in creation order (log 62: DESIGN CHOICE). -/
def Obligations.TripOrders : Prop :=
  (∀ (s : State) (serial : Nat) (o : Order) (ends : Time), s.order? serial = some o →
    o.timeoutEnd = some ends →
    (Time.reached s.now ends = false → exec (.orderTimeoutAttempt1 serial) s = .next s ∧
      exec (.orderTimeoutAttempt2 serial) s = .next s) ∧
    (Time.reached s.now ends = true → o.state = .rerouted →
      exec (.orderTimeoutAttempt2 serial) s = .next (s.failAndFollow o)) ∧
    (Time.reached s.now ends = true → o.state = .sent →
      ∃ t, exec (.orderTimeoutAttempt1 serial) s = .next t ∧ s.attemptFollowed t o State.failAndFollow)) ∧
  (∀ (s : State) (o : Order),
    let failed := s.endOrder o .failed o.late o.mismatch
    (o.origin ≠ .mandatory → s.failOrder o = failed) ∧
    (∀ x, o.origin = .mandatory → s.exec? o.scheme = some x →
      s.failOrder o = failed.setExec o.scheme (some { x with mandatoryMissing := true })) ∧
    s.failAndFollow o = ((s.failOrder o).coverAfterFailure o.scheme).judgeEnd o.scheme) ∧
  (∀ (s : State) (o : Order) (d : SiteDef), s.siteDef o.site = some d →
    (o.firstChannel = d.primary → s.otherChannel o = d.alternate) ∧
    (o.firstChannel ≠ d.primary → s.otherChannel o = some d.primary)) ∧
  (∀ (s : State) (c : Fin 8) (cause : LossCause), s.isFirst (fun m => (loss? c m).isSome) (.loss c cause) →
    let u := s.without (fun m => (loss? c m).isSome)
    exec (.attemptLost c) s = .next ((s.liveOn c).foldl State.loseAttempt u)) ∧
  (∀ (s : State) (serial : Nat) (o : Order), s.order? serial = some o →
    (o.state = .rerouted → s.loseAttempt serial = s.failAndFollow o) ∧
    (o.state = .queued ∨ o.state = .sent → s.attemptFollowed (s.loseAttempt serial) o State.failAndFollow)) ∧
  (∀ (s u : State) (c : Fin 8) (f : RxFrame) (serial output result : Nat),
    s.takeFrame c .dispatcher = some (f, u) →
    readSiteFrame f.header.kind (bytesToWords f.payload) = some (.tripAck serial output result) →
    let site := f.header.address
    let matched := s.dispatcher.orders.find? (fun o => o.serial == serial && o.site == site && o.output == output)
    let answers (t : State) : Prop := exec (.tripAckTaken c) s = .next t
    (result = 0 ∨ 3 < result → answers u) ∧
    (1 ≤ result → result ≤ 3 →
      (∀ o, matched = some o →
        let mode := s.modeOf o.scheme
        let disagrees := decide (mode = .service ∧ result = 2 ∨ mode = .test ∧ result = 1)
        (o.state = .queued ∨ o.state = .sent ∨ o.state = .rerouted →
          (result ≠ 3 → answers (((u.withdrawFrames o.serial).endOrder o .confirmed
            (decide (o.state = .rerouted)) disagrees).judgeEnd o.scheme)) ∧
          (result = 3 → answers ((u.withdrawFrames o.serial).failAndFollow o))) ∧
        (o.state = .final .failed →
          (result ≠ 3 → answers (((u.updateOrder o.serial
            (Order.finish s.now .confirmed true disagrees)).send
              (.lateConfirm o.action o.serial mode)).judgeEnd o.scheme)) ∧
          (result = 3 → answers u)) ∧
        (o.state = .final .confirmed ∨ o.state = .final .withdrawn → answers u)) ∧
      (matched = none →
        (result = 3 ∨ s.strayAction site serial output = none → answers u) ∧
        (∀ a x, result ≠ 3 → s.strayAction site serial output = some a → s.action? a = some x →
          x.avail = .uncertain ∧ x.lastSerial = some serial ∧
          ∃ t, answers t ∧ t.pool.actions = put s.pool.actions a
              (some { x with avail := .tripped, stateTime := s.now }) ∧
            reportsOffered [mkReport .lateTrip false s.now a
              [wordOf serial, wordPair site output, wordOf result]] s t ∧
            onlyChanges [.preparation, .actions, .channels, .reports, .messages] s t))))

/-- Final states and ends (R107, R114 to R116, R119 to R122): what an order's end and an execution's settlement leave,
with the contents of both closing reports; cover, the walk of its hand-over; the deadline (a QUEUED order without a
frame: log 27, DEDUCED). -/
def Obligations.ExecutionEnds : Prop :=
  (∀ (s : State) (o : Order) (f : FinalState) (late mismatch : Bool),
    let t := s.endOrder o f late mismatch
    t.dispatcher.orders = s.dispatcher.orders.map (fun x => if x.serial = o.serial then { x with
      state := .final f, outcomeTime := some s.now, timeoutEnd := none, late := late, mismatch := mismatch }
      else x) ∧
    .liveOrder o.site false ∈ t.inflight ∧
    (∀ x d, s.action? o.action = some x → s.actionDef o.action = some d → x.avail = .committed →
      x.lastSerial = some o.serial → ∃ y, t.action? o.action = some y ∧ y.committing = none ∧
        (f = .confirmed → s.modeOf o.scheme = .service → y.avail = .tripped) ∧
        (f = .expired → s.modeOf o.scheme = .service → y.avail = .uncertain) ∧
        (f = .failed ∨ f = .withdrawn ∨ s.modeOf o.scheme = .test →
          y.avail = reevaluate d (s.poolReach d.site) x.mwQuality x.credit)) ∧
    onlyChanges [.preparation, .actions, .orders, .messages] s t) ∧
  (∀ (s : State) (i : Nat) (x : Exec), s.exec? i = some x →
    let settled := (∀ o ∈ s.dispatcher.orders, o.scheme = i → ∃ f, o.state = .final f) ∧ x.cover = .none ∧
      (x.requirement ≤ s.standing i ∨ x.exhausted = true)
    let outcome : ExecOutcome := if x.requirement ≤ s.confirmed i then .complete else .short
    let ended := s.judgeEnd i
    let deficit := x.requirement - s.standing i
    (¬settled → ended = s) ∧
    (settled →
      ended.dispatcher.execs = put s.dispatcher.execs i none ∧
      ended.dispatcher.orders = s.dispatcher.orders.filter (fun o => o.scheme != i) ∧
      ended.inflight = s.inflight ++ [.schemeEnd i x.mode, .execEnd x.contingency i] ∧
      reportsOffered ((s.ordersOf i).map (orderReport (decide (x.mode = .test))) ++
        [s.endReport i x outcome]) s ended ∧
      onlyChanges [.executions, .orders, .reports, .messages] s ended) ∧
    ((deficit = 0 → s.coverAfterFailure i = s) ∧
      (0 < deficit → x.cover = .none → s.coverAfterFailure i = (s.setExec i (some { x with
        cover := .requested, exhausted := false, recheck := false })).send (.coverReq i deficit)) ∧
      (0 < deficit → x.cover ≠ .none →
        s.coverAfterFailure i = s.setExec i (some { x with recheck := true })) ∧
      ∀ created,
        (deficit = 0 → s.afterHandover i created = s.setExec i (some { x with recheck := false })) ∧
        (0 < deficit → created = true ∨ x.recheck = true →
          s.afterHandover i created = (s.setExec i (some { x with
            cover := .requested, exhausted := false, recheck := false })).send (.coverReq i deficit)) ∧
        (0 < deficit → created = false → x.recheck = false → s.afterHandover i created =
          s.setExec i (some { x with exhausted := true, recheck := false })))) ∧
  (∀ (s : State) (i : Nat) (e : SelEntry) (x : Exec), s.exec? i = some x →
    let t := s.walkEntry i .cover e
    let created := s.dispatcher.orders.length < t.dispatcher.orders.length
    (x.requirement ≤ s.standing i → State.coverEntry i s e = s) ∧
    (s.standing i < x.requirement → (¬created → State.coverEntry i s e = t) ∧
      ∀ y, created → t.exec? i = some y →
        State.coverEntry i s e = t.setExec i (some { y with coverUsed := true }))) ∧
  ((∀ (test : Bool) (o : Order) (f : FinalState) (ended : Time), o.state = .final f →
    o.outcomeTime = some ended →
    let code : Nat := match f with
      | .confirmed => 1
      | .failed => 2
      | .withdrawn => 3
      | .expired => 4
    let origin : Nat := match o.origin with
      | .selection => 1
      | .mandatory => 2
      | .cover => 3
    orderReport test o = mkReport .orderOutcome test ended o.action
      [wordOf o.serial, wordCapped o.credit, wordOf (ended - o.creation).toNat,
        BitVec.ofNat 16 (code * 2 ^ 12 + o.attempt * 2 ^ 10 + origin * 2 ^ 8 +
          (if o.late then 2 ^ 7 else 0) + (if o.mismatch then 2 ^ 6 else 0) + o.channel)]) ∧
  (∀ (s : State) (i : Nat) (x : Exec) (outcome : ExecOutcome),
    let os := s.dispatcher.orders.filter (fun o => o.scheme == i)
    let ending (f : FinalState) := os.filter (fun o => decide (o.state = .final f))
    let credits (l : List Order) := (l.map Order.credit).sum
    let code : Nat := match outcome with
      | .complete => 1
      | .short => 2
      | .expired => 3
    s.endReport i x outcome = mkReport .executionEnd (decide (x.mode = .test)) s.now i
      [wordCapped (credits (ending .confirmed)), wordCapped (credits os),
        wordPair (ending .confirmed).length (ending .failed).length,
        wordPair (ending .withdrawn).length (ending .expired).length,
        BitVec.ofNat 16 (code * 2 ^ 8 + (if x.degraded then 1 else 0) + (if x.coldStart then 2 else 0) +
          (if x.tableFull then 4 else 0) + (if x.coverUsed then 8 else 0) +
          if x.mandatoryMissing then 16 else 0)])) ∧
  (∀ (s : State) (i : Fin 16) (x : Exec), s.exec? i = some x →
    let u := s.without (handoverLane i)
    (s.isFirst (handoverLane i) (.coverStarted i) → exec (.coverScanStarted i) s =
      .next (u.setExec i (some { x with cover := .running }))) ∧
    (∀ list, s.isFirst (handoverLane i) (.coverHandover i list) →
      let v := u.setExec i (some { x with cover := .none })
      let walked := list.foldl (State.coverEntry i) v
      let created := decide (v.dispatcher.orders.length < walked.dispatcher.orders.length)
      exec (.coverHandover i) s = .next ((walked.afterHandover i created).judgeEnd i) ∧
      (x.requirement ≤ s.standing i → walked = v))) ∧
  (∀ (s : State) (i : Fin 16) (x : Exec), s.exec? i = some x → s.dispatcher.Consistent →
    (Time.reached s.now x.deadline = false → exec (.executionDeadline i) s = .next s) ∧
    (Time.reached s.now x.deadline = true →
      let atDeadline (o : Order) : Order :=
        let ends (f : FinalState) :=
          { o with state := .final f, outcomeTime := some s.now, timeoutEnd := none }
        match o.state with
        | .queued => if s.isSending o then ends .expired else ends .withdrawn
        | .sent => ends .expired
        | .rerouted => ends .expired
        | .final _ => o
      ∃ t last, exec (.executionDeadline i) s = .next t ∧
        t.dispatcher.execs = put s.dispatcher.execs i none ∧
        t.dispatcher.orders = s.dispatcher.orders.filter (fun o => o.scheme != i.val) ∧
        reportsOffered ((s.ordersOf i).map (fun o => orderReport (decide (x.mode = .test)) (atDeadline o)) ++
          [last]) s t ∧
        last.kind = .executionEnd ∧ last.test = decide (x.mode = .test) ∧ last.time = s.now ∧
        last.subject = i.val ∧ last.details[4]? = some (BitVec.ofNat 16 (3 * 256 + x.flagBits)) ∧
        .schemeEnd i x.mode ∈ t.inflight ∧ .execEnd x.contingency i ∈ t.inflight ∧
        (x.cover ≠ .none → .coverCancel i ∈ t.inflight) ∧
        onlyChanges [.preparation, .actions, .executions, .orders, .channels, .reports, .messages] s t))

/-! ## Corridor channels and sites (chapter 7) -/

/-- CHANNEL_SET (R128, R129, R148, R149): ENABLE, NORMAL and RESET lead to ACQUIRING, DISABLE and LOOPBACK take the
channel out with its queue, buffers, window and links cleared, its live attempts lost and no route on it; what changes
nothing, and the refusals (that every row takes a code outside the table: log 7, DESIGN CHOICE; the cadence of a RESET
while DISABLED: log 42, DEDUCED; CHANNEL_STATE before the sites' reports: log 63, DESIGN CHOICE). -/
def Obligations.ChannelControls : Prop :=
  ∀ (s : State) (r : Request) (w : Word), s.isNext r → r.kind = 0x30 → r.words = [w] →
    let c := hi w
    let ch := s.channel c
    let refused (reason : Reason) (x : Instr) : Prop := exec x s = .next (s.replyTo r reason [])
    let same (x : Instr) : Prop :=
      exec x s = .next (s.replyTo r .none [wordOf (channelStateCode ch.state)])
    let each (p : Instr → Prop) : Prop :=
      (lo w = 1 → p .channelSetEnable) ∧ (lo w = 2 → p .channelSetDisable) ∧
      (lo w = 3 → p .channelSetLoopback) ∧ (lo w = 4 → p .channelSetNormal) ∧ (lo w = 5 → p .channelSetReset)
    let change (new : ChannelState) (cause : Nat) : Report := mkReport .channelState false s.now c
      [wordPair (channelStateCode ch.state) (channelStateCode new), wordPair 0 cause]
    let acquiring (x : Channel) : Channel :=
      let cadence : Cadence := if ch.alert then .brisk none false else .relaxed
      { x with
        state := .acquiring, window := [], progress := 0, lastGood := s.now, rx := .hunt []
        cadence := cadence, cycle := some ⟨s.now, 0, s.pollPeriod cadence⟩ }
    let emptied : Channel := { ch with
      queue := [], buffers := [], window := [], progress := 0
      tx := ch.tx.map (fun x => { x with orphan := true }) }
    let cleared (cause : LossCause) (t : State) : Prop :=
      (∀ i < 16, t.link c i = ⟨false, 0, .none, none⟩) ∧ (∀ b i, b ≠ c → t.link b i = s.link b i) ∧
      ((∃ f ∈ ch.queue, f.isTrip = true) ∨ s.hasLiveOn c = true → .loss c cause ∈ t.inflight) ∧
      (∀ i, s.serves c i = true → routeChannel (t.site i).route ≠ some c)
    let up (x : Instr) : Prop := ∃ t, exec x s = .next (t.replyTo r .none [2]) ∧
      t.units.channels = put s.units.channels c (acquiring ch) ∧
      (∃ more, reportsOffered (change .acquiring 6 :: more) s t) ∧
      onlyChanges [.channels, .sites, .reports, .messages] s t
    let out (x : Instr) (new : ChannelState) (cause : LossCause) (rx : RxState) : Prop :=
      ∃ t, exec x s = .next (t.replyTo r .none [wordOf (channelStateCode new)]) ∧
        t.units.channels = put s.units.channels c { emptied with
          state := new, cycle := none, cadence := ch.cadence.settled, rx := rx } ∧
        cleared cause t ∧ (∃ more, reportsOffered (change new 6 :: more) s t) ∧
        onlyChanges [.images, .channels, .sites, .links, .reports, .messages] s t
    (8 ≤ c → each (refused .outOfRange)) ∧
    (c < 8 → s.channelDef c = none → each (refused .noItem)) ∧
    (∀ d, c < 8 → s.channelDef c = some d →
      (lo w = 0 ∨ 5 < lo w → ∀ x ∈ [Instr.channelSetEnable, .channelSetDisable, .channelSetLoopback,
        .channelSetNormal, .channelSetReset], refused .outOfRange x) ∧
      (lo w = 1 → (ch.state = .disabled → up .channelSetEnable) ∧
        (ch.state ≠ .disabled → same .channelSetEnable)) ∧
      (lo w = 2 → (ch.state = .disabled → same .channelSetDisable) ∧
        (ch.state ≠ .disabled → out .channelSetDisable .disabled .disabled ch.rx)) ∧
      (lo w = 3 → (ch.state = .disabled → refused .badState .channelSetLoopback) ∧
        (ch.state = .loopback → same .channelSetLoopback) ∧
        (ch.state.inService = true → out .channelSetLoopback .loopback .loopback (.hunt []))) ∧
      (lo w = 4 → (ch.state = .loopback → up .channelSetNormal) ∧
        (ch.state ≠ .loopback → refused .badState .channelSetNormal)) ∧
      (lo w = 5 →
        let base : Channel := { emptied with outSeq := 0, rx := .hunt [], probe := none }
        (ch.state = .disabled → ∃ t, exec .channelSetReset s = .next (t.replyTo r .none [1]) ∧
          t.units.channels = put s.units.channels c base ∧ cleared .reset t ∧
          onlyChanges [.images, .channels, .sites, .links, .reports, .messages] s t) ∧
        (ch.state ≠ .disabled → ∃ t, exec .channelSetReset s = .next (t.replyTo r .none [2]) ∧
          t.units.channels = put s.units.channels c (acquiring base) ∧ cleared .reset t ∧
          (∃ more, reportsOffered (change .acquiring 7 :: more) s t) ∧
          onlyChanges [.images, .channels, .sites, .links, .reports, .messages] s t)))

/-- Probes (R150, R151, R175, R182): CHANNEL_PROBE on a LOOPBACK channel creates the probe, queues its frame and holds
the request; the first frame that completes, or PROBE_TIMEOUT, ends it and forms the reply, in which the time of
NOT_RETURNED is FFFFh (an absent item: log 8, DEDUCED). -/
def Obligations.Probes : Prop :=
  (∀ (s : State) (r : Request) (w : Word) (data : List Word), s.isNext r → r.kind = 0x31 →
    r.words = w :: data → data.length = lo w →
    let c := hi w
    let refused (reason : Reason) : Prop := exec .channelProbe s = .next (s.replyTo r reason [])
    (8 ≤ c → refused .outOfRange) ∧
    (c < 8 → s.channelDef c = none → refused .noItem) ∧
    (∀ d, c < 8 → s.channelDef c = some d →
      (lo w = 0 ∨ 16 < lo w → refused .outOfRange) ∧
      (1 ≤ lo w → lo w ≤ 16 →
        ((s.channel c).state ≠ .loopback → refused .badState) ∧
        ((s.channel c).state = .loopback → ∃ t, exec .channelProbe s = .next t ∧
          t.port = { s.port with requests := advanceRequest .waiting .running s.port.requests } ∧
          ((t.channel c).probe = some ⟨data, .queued⟩ ∨ (t.channel c).probe = some ⟨data, .sending⟩) ∧
          ((s.channel c).queue.length < 8 → .probe data ∈ (t.channel c).queue ∨
            (t.channel c).tx.map Sending.frame = some (.probe data)) ∧
          onlyChanges [.images, .channels, .links, .requests] s t)))) ∧
  (∀ (s : State) (c : Fin 8) (d : ChannelDef) (data : List Word) (ended : Time), s.channelDef c = some d →
    (s.channel c).probe = some ⟨data, .waiting ended⟩ →
    let u := s.setChannel c { s.channel c with probe := none }
    let waited := (s.now - ended).toNat
    (10 * d.lossTime ≤ waited → exec (.probeTimeout c) s =
      .next (u.completeRunning .none [3, 0xFFFF, 0])) ∧
    (waited < 10 * d.lossTime → exec (.probeTimeout c) s = .next s) ∧
    (∀ h payload crc, (s.channel c).state = .loopback → (s.channel c).rx = .body h →
      payload.length = 2 * h.length →
      let intact := h.kind = 4 ∧ (h.length = 0 ∨ crc16 payload = crc) ∧ bytesToWords payload = data
      let result (n : Word) : List Word := [n, wordOf waited, if h.corrected then 1 else 0]
      let v := s.setChannel c { s.channel c with probe := none, rx := .hunt [] }
      (intact → exec (.channelFrameComplete c payload crc) s =
        .next (v.completeRunning .none (result 1))) ∧
      (¬intact → exec (.channelFrameComplete c payload crc) s =
        .next (v.completeRunning .none (result 2))))) ∧
  (∀ (s : State) (r : Request) (before after : List Request) (content : List Word),
    s.port.requests = before ++ r :: after → (∀ x ∈ before, x.stage ≠ .running) → r.stage = .running →
    s.completeRunning .none content = { s with port := { s.port with
      requests := before ++ { r with stage := .replied } :: after
      replies := s.port.replies ++ [⟨r.kind, r.tag, .none, content, false⟩] } })

/-- Reception (R130 to R137, R193): CHANNEL_FRAME_COMPLETE takes a FREE buffer or is an overrun; the owners of a frame
by its kind, none of another kind or of a malformed frame; RECEIVE_BUFFER_CHECK records the frame's outcomes and
delivers it to them; an owner takes a frame that stands first, and none where the first is not owed to it, so that
frames are delivered in the order in which they completed; the outcomes of one frame are recorded and judged together
(DOWN to ACQUIRING: log 20, DEDUCED; CHANNEL_STATE before the sites' reports: log 63, DESIGN CHOICE). -/
def Obligations.Reception : Prop :=
  (∀ (s : State) (c : Fin 8) (h : Header) (payload : List Byte) (crc : Word),
    let ch := s.channel c
    ch.state.inService = true → ch.rx = .body h → payload.length = 2 * h.length →
    (ch.buffers.length < 2 → exec (.channelFrameComplete c payload crc) s =
      .next (s.setChannel c { ch with
        rx := .hunt [], buffers := ch.buffers ++ [⟨h, payload, crc, none⟩] })) ∧
    (2 ≤ ch.buffers.length → exec (.channelFrameComplete c payload crc) s =
      .next (((s.setChannel c { ch with rx := .hunt [] }).recordOutcomes c [false]).report
        (mkReport .rxOverrun false s.now c [wordPair h.kind h.address])))) ∧
  (∀ f : RxFrame,
    let kind := f.header.kind
    let ws := bytesToWords f.payload
    let pairs := lo (wordAt ws 0)
    let codes := lo (wordAt ws 0)
    frameOwners f =
      if kind = 0x11 ∧ ws.length = 9 then [.pointStore, .pollTracking]
      else if kind = 0x12 ∧ 1 ≤ pairs ∧ pairs ≤ 12 ∧ ws.length = 1 + 2 * pairs then [.pointStore, .pollTracking]
      else if kind = 0x13 ∧ 1 ≤ codes ∧ codes ≤ 4 ∧ ws.length = 1 + (codes + 1) / 2 then [.detector]
      else if kind = 0x14 ∧ ws.length = 2 then [.dispatcher]
      else if kind = 0x15 ∧ ws.length = 1 then [.engine]
      else []) ∧
  (∀ (s : State) (c : Fin 8) (before after : List RxFrame) (f : RxFrame),
    let ch := s.channel c
    ch.state.inService = true → ch.buffers = before ++ f :: after → (∀ x ∈ before, x.owners.isSome = true) →
    f.owners = none →
    let freed := s.setChannel c { ch with buffers := before ++ after }
    let site := f.header.address
    let owners := frameOwners f
    let kept := if owners = [] then freed else
      s.setChannel c { ch with buffers := before ++ { f with owners := some owners } :: after }
    let passes := (f.header.length = 0 ∨ crc16 f.payload = f.crc) ∧ s.serves c site = true
    let checked (t : State) : Prop := exec (.receiveBufferCheck c) s = .next t
    let good (missing : Nat) : Prop :=
      let t := kept.recordOutcomes c (List.replicate missing false ++ [true])
      checked (t.setLink c site { t.link c site with seqRef := some f.header.sequence })
    (¬passes → checked (freed.recordOutcomes c [false])) ∧
    (passes → (s.link c site).seqRef = none → good 0) ∧
    (∀ l, passes → (s.link c site).seqRef = some l → l < 16 → f.header.sequence < 16 →
      let gap := (f.header.sequence + 16 - l) % 16
      (gap = 0 → checked freed) ∧ (gap ≠ 0 → good (gap - 1)))) ∧
  (∀ (s : State) (c : Fin 8) (f : RxFrame) (rest : List RxFrame) (o : Owner) (owners : List Owner),
    (s.channel c).buffers = f :: rest →
    let left := owners.filter (fun x => x ≠ o)
    (f.owners = some owners → o ∈ owners → s.takeFrame c o = some (f, s.setChannel c { s.channel c with
      buffers := if left = [] then rest else { f with owners := some left } :: rest })) ∧
    (f.owners = none ∨ f.owners = some owners ∧ o ∉ owners → s.takeFrame c o = none)) ∧
  (∀ (s : State) (c : Fin 8) (o : Owner), s.takeFrame c o = none →
    let command : Instr := match o with
      | .pointStore => .siteSamplesTaken c
      | .pollTracking => .pollAnswer c
      | .detector => .indicationTaken c
      | .dispatcher => .tripAckTaken c
      | .engine => .armAckTaken c
    exec command s = .next s) ∧
  (∀ (s : State) (c : Nat) (d : ChannelDef) (outcomes : List Bool), c < 8 → s.channelDef c = some d →
    let ch := s.channel c
    let t := s.recordOutcomes c outcomes
    let all := ch.window ++ outcomes
    let window := all.drop (all.length - 16)
    let bad := (window.filter (fun good => !good)).length
    let heard := outcomes.contains true
    let lastGood := if heard then s.now else ch.lastGood
    let progress := outcomes.foldl (fun n good => if good then min (n + 1) 16 else 0) ch.progress
    let becomes (new : ChannelState) (cause : Nat) (x : Channel) : Prop :=
      t.units.channels = put s.units.channels c { x with state := new } ∧
      onlyChanges [.channels, .sites, .reports] s t ∧
      (new ≠ ch.state → ∃ more, reportsOffered (mkReport .channelState false s.now c
        [wordPair (channelStateCode ch.state) (channelStateCode new), wordPair bad cause] :: more) s t) ∧
      (new = ch.state → t.reports = s.reports)
    let x : Channel := { ch with window := window, lastGood := lastGood }
    let y : Channel := { x with progress := progress }
    (ch.state = .acquiring →
      (progress < d.acquireNeeded → becomes .acquiring 1 y) ∧
      (d.acquireNeeded ≤ progress → d.degradeThreshold ≤ bad → becomes .degraded 1 y) ∧
      (d.acquireNeeded ≤ progress → bad < d.degradeThreshold → becomes .up 1 y)) ∧
    (ch.state = .up → (d.degradeThreshold ≤ bad → becomes .degraded 2 x) ∧
      (bad < d.degradeThreshold → becomes .up 2 x)) ∧
    (ch.state = .degraded → (bad ≤ d.degradeThreshold / 2 → becomes .up 3 x) ∧
      (d.degradeThreshold / 2 < bad → becomes .degraded 3 x)) ∧
    (ch.state = .down →
      (heard = false → t = s) ∧
      (heard = true → t.units.channels = put s.units.channels c { ch with
          state := .acquiring, window := [true], progress := 1, lastGood := s.now, rx := .hunt [] } ∧
        (∀ i, t.link c i = { s.link c i with seqRef := none }) ∧
        (∃ more, reportsOffered (mkReport .channelState false s.now c
          [wordPair 5 2, wordPair 0 5] :: more) s t) ∧
        onlyChanges [.channels, .sites, .links, .reports] s t)) ∧
    (ch.state = .disabled ∨ ch.state = .loopback → t = s))

/-- Transmission and polling (R107, R138, R139, R141 to R143): TRANSMISSION_END tells the owner, then the oldest
waiting TRIP frame goes first, else the oldest ROUTINE frame; POLL_DUE, POLL_CYCLE_START, POLL_ANSWER,
POLL_REPLY_TIMEOUT and SETTLE_TIME_EXPIRY. A cycle start is one period after the last, also when it is taken late, and
waits for the last position (log 22: DEDUCED). LossAndRoutes says what reachChanged does. -/
def Obligations.TransmissionAndPolling : Prop :=
  (∀ (s : State) (c : Fin 8) (f : TxFrame) (sequence : Nat) (orphan : Bool),
    let ch := s.channel c
    ch.tx = some ⟨f, sequence, orphan⟩ →
    ∃ t, exec (.transmissionEnd c) s = .next t ∧
      onlyChanges [.images, .orders, .channels, .links] s t ∧
      (ch.queue = [] → (t.channel c).tx = none ∧ (t.channel c).outSeq = ch.outSeq) ∧
      (∀ before g after, ch.queue = before ++ g :: after →
        (g.isTrip = true ∧ ∀ x ∈ before, x.isTrip = false) ∨
          (before = [] ∧ ∀ x ∈ ch.queue, x.isTrip = false) →
        (t.channel c).queue = before ++ after ∧ (t.channel c).outSeq = (ch.outSeq + 1) % 16 ∧
        ∃ lone, (t.channel c).tx = some ⟨g, (ch.outSeq + 1) % 16, lone⟩) ∧
      (∀ site serial output scheme attempt test, f = .trip site serial output scheme attempt test →
        t.units.links = s.units.links ∧ t.engine = s.engine ∧
        t.dispatcher.orders = s.dispatcher.orders.map (fun o =>
          if o.serial = serial ∧ o.attempt = attempt ∧ (o.state = .queued ∨ o.state = .rerouted) then { o with
            state := if o.state = .queued then .sent else .rerouted, sendTime := some s.now
            timeoutEnd := some (s.now + BitVec.ofNat 32 (s.confirmTimeout c)) }
          else o)) ∧
      (∀ site, f = .poll site → site < 16 → t.dispatcher = s.dispatcher ∧ t.engine = s.engine ∧
        t.link c site = if orphan = false ∧ (s.link c site).poll = .queued then { s.link c site with
          poll := .awaiting (s.now + BitVec.ofNat 32 (s.replyTimeout c)) } else s.link c site) ∧
      (∀ site version codes n, f = .armSet site version codes → site < 16 →
        (s.channelDef c).isSome = true → (s.image site).version = version →
        (∃ ends, (s.image site).conf = .awaiting n ends) → t.dispatcher = s.dispatcher ∧
        t.image site = { s.image site with
          conf := .awaiting n (some (s.now + BitVec.ofNat 32 (s.replyTimeout c))) }) ∧
      (∀ words data, f = .probe words → ch.probe = some ⟨data, .sending⟩ →
        (t.channel c).probe = some ⟨data, .waiting s.now⟩)) ∧
  (∀ (s : State) (c : Fin 8) (p : PollCycle),
    let ch := s.channel c
    let sites := s.served c
    let next := p.start + BitVec.ofNat 32 p.period
    let due := p.start + BitVec.ofNat 32 (p.position * p.period / sites.length)
    ch.cycle = some p → ch.state.inService = true →
    (∀ site, sites[p.position]? = some site →
      let u := s.setChannel c { ch with cycle := some { p with position := p.position + 1 } }
      (Time.reached s.now due = false → exec (.pollDue c) s = .next s) ∧
      (Time.reached s.now due = true → (s.link c site).poll ≠ .none ∨ 8 ≤ ch.queue.length →
        exec (.pollDue c) s = .next u) ∧
      (Time.reached s.now due = true → (s.link c site).poll = .none → ch.queue.length < 8 →
        ∃ t, exec (.pollDue c) s = .next t ∧ t.link c site = { s.link c site with poll := .queued } ∧
          (.poll site ∈ (t.channel c).queue ∨ (t.channel c).tx.map Sending.frame = some (.poll site)) ∧
          (t.channel c).cycle = some { p with position := p.position + 1 } ∧
          onlyChanges [.images, .channels, .links] s t)) ∧
    (sites.length ≤ p.position → Time.reached s.now next = true →
      let begins (x : Cadence) : Prop := exec (.pollCycleStart c) s = .next (s.setChannel c { ch with
        cadence := x, cycle := some ⟨next, 0, s.pollPeriod x⟩ })
      (∀ start, ch.cadence = .brisk start true → begins .relaxed) ∧
      ((∀ start, ch.cadence ≠ .brisk start true) → begins ch.cadence)) ∧
    (p.position < sites.length ∨ Time.reached s.now next = false →
      exec (.pollCycleStart c) s = .next s)) ∧
  (∀ (s : State) (c : Fin 8) (site : Fin 16) (d : ChannelDef) (ends : Time), s.channelDef c = some d →
    (s.link c site).poll = .awaiting ends →
    let l := s.link c site
    let missed := min (l.missed + 1) d.missedLimit
    (Time.reached s.now ends = false → exec (.pollReplyTimeout c site) s = .next s) ∧
    (Time.reached s.now ends = true → missed ≠ d.missedLimit ∨ l.reachable = false →
      exec (.pollReplyTimeout c site) s = .next (s.setLink c site { l with
        missed := missed, poll := .none })) ∧
    (Time.reached s.now ends = true → missed = d.missedLimit → l.reachable = true →
      exec (.pollReplyTimeout c site) s = .next ((s.setLink c site
        ⟨false, missed, .none, none⟩).reachChanged c site))) ∧
  (∀ (s u : State) (c : Fin 8) (f : RxFrame), s.takeFrame c .pollTracking = some (f, u) →
    let site := f.header.address
    let l := s.link c site
    (∀ ends, l.poll = .awaiting ends →
      let v := u.setLink c site { l with poll := .none, missed := 0, reachable := true }
      (l.reachable = true → exec (.pollAnswer c) s = .next v) ∧
      (l.reachable = false → exec (.pollAnswer c) s = .next (v.reachChanged c site))) ∧
    ((∀ ends, l.poll ≠ .awaiting ends) → exec (.pollAnswer c) s = .next u)) ∧
  (∀ (s : State) (c : Fin 8) (start : Time) (mark : Bool), (s.channel c).cadence = .brisk (some start) mark →
    let ends := start + BitVec.ofNat 32 (settleCounts s.banks.active.params)
    ((s.channel c).alert = false → Time.reached s.now ends = true → exec (.settleTimeExpiry c) s =
      .next (s.setChannel c { s.channel c with cadence := .brisk none true })) ∧
    ((s.channel c).alert = true ∨ Time.reached s.now ends = false →
      exec (.settleTimeExpiry c) s = .next s))

/-- Loss and routes (R135, R143 to R147): LOSS_TIME_EXPIRY takes the channel DOWN (its window stands, and the report
gives its bad count: log 66, DESIGN CHOICE); a change of a site's reachability is delivered to the Point Store and the
Action Pool and reported (the code 0 of UNREACHABLE: log 47, DEDUCED), and its route is judged; a judgement gives a
site its preferred route but for the alternate hold (a move from NONE to ALTERNATE has cause FOUND: log 19, DEDUCED;
CHANNEL_STATE before the sites' reports, and reachability before route: log 63, DESIGN CHOICE); REVERT_DELAY_EXPIRY
and LIVE_ORDER_NOTICE judge the route. -/
def Obligations.LossAndRoutes : Prop :=
  (∀ (s : State) (c : Fin 8) (d : ChannelDef), s.channelDef c = some d →
    let ch := s.channel c
    let runs := ch.state = .acquiring ∨ ch.state = .up ∨ ch.state = .degraded
    let age := (s.now - ch.lastGood).toNat
    (¬runs ∨ age ≤ 10 * d.lossTime → exec (.lossTimeExpiry c) s = .next s) ∧
    (runs → 10 * d.lossTime < age → ∃ t, exec (.lossTimeExpiry c) s = .next t ∧
      t.units.channels = put s.units.channels c { ch with
        state := .down, queue := ch.queue.filter (fun f => !f.isTrip)
        tx := ch.tx.map (fun x => { x with orphan := true }) } ∧
      (∀ i < 16, t.link c i = ⟨false, 0, .none, none⟩) ∧ (∀ b i, b ≠ c.val → t.link b i = s.link b i) ∧
      .loss c .down ∈ t.inflight ∧
      (∃ more, reportsOffered (mkReport .channelState false s.now c
        [wordPair (channelStateCode ch.state) 5,
          wordPair (ch.window.filter (fun good => !good)).length 4] :: more) s t) ∧
      (∀ i, s.serves c i = true → routeChannel (t.site i).route ≠ some c.val ∧
        (t.site i).reach = !(t.reachableOn i).isEmpty ∧ ((t.site i).reach ≠ (s.site i).reach →
          .pointsReach i (t.site i).reach ∈ t.inflight ∧ .actionReach i (t.site i).reach ∈ t.inflight)) ∧
      onlyChanges [.channels, .sites, .links, .reports, .messages] s t)) ∧
  (∀ (s : State) (c i : Nat) (d : SiteDef), s.siteDef i = some d →
    let on := d.channels.filter (fun b => (s.link b i).reachable)
    let x := s.site i
    let reach := !on.isEmpty
    let t := s.refreshReach c i
    s.reachChanged c i = t.judgeRoute i false ∧ (x.reach = reach → t = s) ∧
    (x.reach ≠ reach → t = ((s.setSite i { x with reach := reach }).sendAll
      [.pointsReach i reach, .actionReach i reach]).report (mkReport .siteReachability false s.now i
        [wordPair (if reach then 1 else 0) c, wordSet on]))) ∧
  (∀ (s : State) (i : Nat) (d : SiteDef), i < 16 → s.siteDef i = some d →
    let usable (c : Nat) : Prop := ((s.channel c).state = .up ∨ (s.channel c).state = .degraded) ∧
      (s.link c i).reachable = true
    let sound := (s.channel d.primary).state = .up ∧ (s.link d.primary i).reachable = true
    let x := s.site i
    let t := s.judgeRoute i false
    let takes (r : Route) (cause : Nat) : Prop :=
      t.site i = { x with route := r, stableSince := none } ∧ onlyChanges [.sites, .reports] s t ∧
      reportsOffered (if x.route = r then [] else [mkReport .routeChange false s.now i
        [routeWord x.route, routeWord r, wordOf cause]]) s t
    (∀ a, x.route = .alternate a → sound → usable a →
      let since := x.stableSince.getD s.now
      let delay := revertCounts s.banks.active.params
      (delay ≤ (s.now - since).toNat → x.liveOrders = 0 → takes (.primary d.primary) 2) ∧
      ((s.now - since).toNat < delay ∨ x.liveOrders ≠ 0 →
        t = s.setSite i { x with stableSince := some since })) ∧
    ((∀ a, x.route = .alternate a → ¬(sound ∧ usable a)) →
      let cause : Route → Nat
        | .none => 4
        | .alternate _ => if x.route = .none then 5 else 1
        | .primary _ => if x.route = .none then 5 else 3
      (sound → takes (.primary d.primary) (cause (.primary d.primary))) ∧
      (∀ a, ¬sound → d.alternate = some a → usable a → takes (.alternate a) (cause (.alternate a))) ∧
      (¬sound → (∀ a, d.alternate = some a → ¬usable a) → usable d.primary →
        takes (.primary d.primary) (cause (.primary d.primary))) ∧
      (¬usable d.primary → (∀ a, d.alternate = some a → ¬usable a) → takes .none (cause .none)))) ∧
  (∀ (s : State) (i : Fin 16) (a : Nat) (since : Time), (s.site i).route = .alternate a →
    (s.site i).stableSince = some since →
    let delay := revertCounts s.banks.active.params
    (delay ≤ (s.now - since).toNat →
      exec (.revertDelayExpiry i) s = .next (s.judgeRoute i false)) ∧
    ((s.now - since).toNat < delay → exec (.revertDelayExpiry i) s = .next s)) ∧
  (∀ (s : State) (i : Fin 16) (created : Bool),
    s.isFirst (fun m => (liveOrderFor i m).isSome) (.liveOrder i created) →
    let u := s.without (fun m => (liveOrderFor i m).isSome)
    let n := (s.site i).liveOrders
    (created = true → exec (.liveOrderNotice i) s =
      .next (u.setSite i { s.site i with liveOrders := n + 1 })) ∧
    (created = false → exec (.liveOrderNotice i) s =
      .next ((u.setSite i { s.site i with liveOrders := n - 1 }).judgeRoute i false)))

/-! ## Engine restart (chapter 9) -/

/-- ENGINE_RESTART (R37, R51, R59, R71 to R73, R98, R125, R146, R152, R169, R181): what each block's restart rule
leaves, with the request held; RESTART_COMPLETE gives the abandoned counts and the time in the reply. Departures from
EXECUTING that leave no scheme EXECUTING send one quiescence notice, and a scheme that changes its notice to the
Engine. CANCELLED and then ENGINE_RESTART stand before the other reports (the order of the blocks, log 64: DESIGN
CHOICE); messages on their way are log 13 (DEDUCED), the state time of a scheme that is back in its arm state log 52
(DEDUCED). -/
def Obligations.EngineRestart : Prop :=
  (∀ (s : State) (r : Request), s.isNext r → r.kind = 0x32 → r.words = [] →
    let lives := (s.dispatcher.orders.filter (fun o => o.state.isLive)).length
    let execs := (s.dispatcher.execs.toList.filter Option.isSome).length
    ∃ t, exec .engineRestart s = .next t ∧
      t.port = { s.port with
        requests := advanceRequest .waiting .running s.port.requests, restart := some ⟨execs, lives⟩ } ∧
      t.banks.switch = .idle ∧
      (∀ k x, s.contingency? k = some x →
        t.contingency? k = some (Contingency.cleared x.terms.length)) ∧
      t.evaluator.anyPending = false ∧ (∀ i, t.exec? i = none) ∧ t.dispatcher.orders = [] ∧
      t.dispatcher.nextSerial = s.dispatcher.nextSerial ∧
      (∀ a x, s.action? a = some x → t.action? a = some (if x.avail = .committed then { x with
        avail := .blocked, blockCause := some .restart, committing := none, stateTime := s.now } else x)) ∧
      (∀ i, rec? t.engine.published i = none ∧ rec? t.engine.shadow i = none) ∧
      t.engine.cover = [] ∧ t.engine.queue = [] ∧ t.engine.running = none ∧ t.engine.suspended = none ∧
      (∀ i, item t.engine.held i false = false) ∧
      (∀ i x d, s.scheme? i = some x → s.schemeDef i = some d →
        let base := { x with frozen := false, dwell := none, preExec := none }
        (x.enable = false ∨ x.arm = .latched → t.scheme? i = some base) ∧
        (x.enable = true → x.arm ≠ .latched →
          let e := evaluate d s.liveView s.now
          let j := judgeDisarmed d s.now e.q
          t.scheme? i = some { base with
            arm := j.arm, dwell := j.dwell, record := some e
            stateTime := if x.arm = j.arm then x.stateTime else s.now } ∧
          (x.arm ≠ j.arm → .schemeState i true j.arm x.mode ∈ t.inflight) ∧
          (j.entered = true → .rescan i .evaluator ∈ t.inflight))) ∧
      (∀ c, (∀ f ∈ (t.channel c).queue, f.isTrip = false) ∧ (t.channel c).state = (s.channel c).state ∧
        (t.channel c).window = (s.channel c).window ∧ (t.channel c).buffers = (s.channel c).buffers) ∧
      (∀ i, (t.site i).liveOrders = 0 ∧ (t.site i).reach = (s.site i).reach) ∧
      (∀ i : Fin 16, (s.siteDef i).isSome = true → (t.image i).codes = [] ∧
        (t.image i).version = if (s.image i).codes = [] then (s.image i).version else (s.image i).version + 1) ∧
      s.alertFollowed t ∧
      (let departed := ∃ i x y, s.scheme? i = some x ∧ x.arm = .executing ∧ t.scheme? i = some y ∧ y.arm ≠ .executing
       let executing := ∃ i y, t.scheme? i = some y ∧ y.arm = .executing
       let notices := t.inflight.count .quiescence
       (departed → ¬executing → notices = 1) ∧ (¬departed ∨ executing → notices = 0)) ∧
      (∃ more, reportsOffered ((if s.banks.switch = .idle then [] else
          [mkReport .bankEvent false s.now 0 [s.banks.requested.getD 0, 2, 0, 0, 3]]) ++
        mkReport .engineRestart false s.now 0 [wordOf execs, wordOf lives] :: more) s t ∧
        more.filter (fun r => decide (r.kind = .armState)) = s.armReports t 7 ∧
        (∀ (i : Fin 16) (d : SiteDef), s.siteDef i = some d →
          let x := s.site i
          let y := t.site i
          let since := x.stableSince.getD s.now
          let delay := revertCounts s.banks.active.params
          ((∀ a, x.route ≠ .alternate a) → y.route = x.route ∧ y.stableSince = x.stableSince) ∧
          (∀ a, x.route = .alternate a →
            let rests := s.sound d.primary i = true ∧ s.usable a i = true
            (rests → delay ≤ (s.now - since).toNat → y.route = .primary d.primary ∧ y.stableSince = none ∧
              mkReport .routeChange false s.now i
                [routeWord x.route, routeWord y.route, wordOf 2] ∈ more) ∧
            (rests → (s.now - since).toNat < delay → y.route = x.route ∧ y.stableSince = some since) ∧
            (¬rests → y.route = s.preferredRoute i ∧ y.stableSince = none)))) ∧
      onlyChanges [.switch, .preparation, .contingencies, .schemes, .alert, .actions, .engineWork,
        .selections, .images, .executions, .orders, .channels, .sites, .links, .requests, .reports,
        .messages] s t) ∧
  (∀ (s : State) (run : RestartRun), s.port.restart = some run →
    exec .restartComplete s = .next (({ s with port := { s.port with restart := none } }).completeRunning
      .none [wordOf run.execs, wordOf run.orders, s.now.extractLsb' 16 16, s.now.extractLsb' 0 16]))
end

