-- ==== Sys2Proof/Laws/Commit.lean ====
section
/-! SUPPORT. What the carry rules of a commit leave of one point, contingency and scheme, which contingency keeps the
part from being quiescent, and the words of terms in the Detector's reports: one lemma for each function. -/

namespace Sys2Proof.Machine

/-! ## Carry rules (R20, R38, R52, R54, R74) -/

/-- The expiries due at `now`, by quality and age (R7). -/
theorem Point.expire_rows {V : Type} (now : Time) (limit : Nat) (x : Point V) :
    let age := (now - x.lastSample).toNat
    let runs := x.quality = .good ∨ x.quality = .limited ∨ x.quality = .restoring
    let fallen (quality : Quality) : Point V := { x with quality := quality, progress := 0, origin := none }
    (runs ∨ x.quality = .stale → 40 * limit < age → x.expire now limit = fallen .failed) ∧
    (runs → 10 * limit < age → age ≤ 40 * limit → x.expire now limit = fallen .stale) ∧
    (runs → age ≤ 10 * limit → x.expire now limit = x) ∧
    (x.quality = .stale → age ≤ 40 * limit → x.expire now limit = x) ∧
    (x.quality = .failed ∨ x.quality = .substituted → x.expire now limit = x) := by
  intro age runs fallen
  have ten : counts limit = 10 * limit ∧ 4 * counts limit = 40 * limit := by unfold counts; omega
  have stale : x.staleDue now limit = (x.quality.runsStaleness && decide (10 * limit < age)) := by
    rw [Point.staleDue, ten.1]; rfl
  have fail : x.failDue now limit = (decide (x.quality = .stale) && decide (40 * limit < age)) := by
    rw [Point.failDue, ten.2]; rfl
  have failStale : x.goStale.failDue now limit = decide (40 * limit < age) := by
    rw [Point.failDue, ten.2]; exact Bool.true_and _
  have runs_iff : x.quality.runsStaleness = true ↔ runs := by
    cases hq : x.quality <;> simp [runs, hq, Quality.runsStaleness]
  have apart : runs → x.quality ≠ .stale := by rintro (h | h | h) <;> simp [h]
  have rest (h : ¬(runs ∧ 10 * limit < age)) : x.expire now limit =
      if x.quality = .stale ∧ 40 * limit < age then fallen .failed else x := by
    have : x.staleDue now limit = false := by
      rw [stale]; simpa [← runs_iff] using h
    simp [Point.expire, this, fail, fallen, Point.goFailed]
  have fall (h : runs) (h10 : 10 * limit < age) : x.expire now limit =
      if 40 * limit < age then fallen .failed else fallen .stale := by
    have : x.staleDue now limit = true := by simp [stale, runs_iff.2 h, h10]
    simp only [Point.expire, this, if_true, failStale, decide_eq_true_eq]
    rfl
  refine ⟨?_, fun h h10 h40 => ?_, fun h h10 => ?_, fun h h40 => ?_, fun h => ?_⟩
  · rintro (h | h) h40
    · rw [fall h (by omega), if_pos h40]
    · rw [rest (fun r => apart r.1 h), if_pos ⟨h, h40⟩]
  · rw [fall h h10, if_neg (by omega)]
  · rw [rest (fun r => by omega), if_neg (fun r => apart h r.1)]
  · rw [rest (fun r => apart r.1 h), if_neg (fun r => by omega)]
  · rcases h with h | h <;> rw [rest (by simp [runs, h]), if_neg (by simp [h])]

theorem carryPoint_carried {V : Type} (now : Time) (zero : V) (old : Option Source)
    (new : Option (Source × Nat)) (p : Option (Point V)) :
    pointCarried now zero old new p (carryPoint now zero old new p) := by
  refine ⟨fun h => by subst h; rfl, ?_⟩
  rintro source limit rfl
  refine ⟨?_, ?_⟩
  · rintro (h | rfl)
    · cases old <;> cases p <;> simp_all [carryPoint, Point.fresh]
    · cases old <;> rfl
  · rintro x rfl rfl
    have kept : carryPoint now zero (some source) (some (source, limit)) (some x) = some (x.expire now limit) := by
      simp [carryPoint]
    have rows := Point.expire_rows now limit x
    simp only [kept, Option.some.injEq]
    exact rows

/-! ### Executions that end at the commit (R34, R38) -/

theorem State.lowerCount_contingency (s : State) (j k : Nat) :
    (s.lowerCount j).contingency? k =
      if j = k then (s.contingency? k).map Contingency.executionEnded else s.contingency? k := by
  unfold State.lowerCount
  by_cases e : j = k
  · subst e
    rw [if_pos rfl]
    cases h : s.contingency? j with
    | none => exact h
    | some x =>
      have hj : j < 32 := by
        rcases Nat.lt_or_ge j 32 with hj | hj
        · exact hj
        · simp [State.contingency?, rec?, Vector.getElem?_eq_none hj] at h
      simp [State.setContingency, State.contingency?, rec?, put, hj]
  · rw [if_neg e]
    cases s.contingency? j with
    | none => rfl
    | some x => simp [State.setContingency, State.contingency?, rec?, put, e]

/-- A contingency as `n` ends of its executions leave it. -/
def Contingency.afterEnds (n : Nat) (x : Option Contingency) : Option Contingency :=
  Nat.repeat (Option.map Contingency.executionEnded) n x

theorem Contingency.afterEnds_succ (n : Nat) (x : Option Contingency) :
    Contingency.afterEnds (n + 1) x = Contingency.afterEnds n (x.map Contingency.executionEnded) := by
  unfold Contingency.afterEnds
  induction n with
  | zero => rfl
  | succ n ih => exact congrArg (Option.map Contingency.executionEnded) ih

theorem State.settleEnds_contingency (s : State) (k : Nat) :
    s.settleEnds.contingency? k = Contingency.afterEnds (s.endsOnTheWay k) (s.contingency? k) := by
  unfold State.settleEnds State.endsOnTheWay
  generalize s.inflight.filterMap endedContingency? = l
  induction l generalizing s with
  | nil => rfl
  | cons j l ih =>
    rw [List.foldl_cons, ih, s.lowerCount_contingency, List.count_cons]
    by_cases e : j = k
    · simp [e, Contingency.afterEnds_succ]
    · simp [e]

theorem Contingency.afterEnds_clear (n : Nat) (x : Contingency) (h : x.state = .clear) :
    ∃ y, Contingency.afterEnds n (some x) = some y ∧ y.state = .clear := by
  induction n generalizing x with
  | zero => exact ⟨x, rfl, h⟩
  | succ n ih =>
    rw [Contingency.afterEnds_succ, Option.map_some]
    exact ih _ (by simp [Contingency.executionEnded, h])

/-- What the ends of its executions leave of a HELD contingency. -/
theorem Contingency.afterEnds_held (n : Nat) (x : Contingency) (h : x.state = .held) :
    ∃ y, Contingency.afterEnds n (some x) = some y ∧
      (x.clearReady = true ∧ 1 ≤ n ∧ x.liveCount ≤ n → y.state = .clear) ∧
      (¬(x.clearReady = true ∧ 1 ≤ n ∧ x.liveCount ≤ n) → y.state = .held ∧
        y.firstEvidence = x.firstEvidence ∧ y.detectTime = x.detectTime ∧ y.degraded = x.degraded) := by
  induction n generalizing x with
  | zero => exact ⟨x, rfl, fun k => absurd k.2.1 (by decide), fun _ => ⟨h, rfl, rfl, rfl⟩⟩
  | succ n ih =>
    rw [Contingency.afterEnds_succ, Option.map_some]
    by_cases c : x.liveCount - 1 = 0 ∧ x.state = .held ∧ x.clearReady = true
    · obtain ⟨y, hy, hc⟩ := Contingency.afterEnds_clear n x.executionEnded
        (by rw [Contingency.executionEnded, if_pos c]; rfl)
      exact ⟨y, hy, fun _ => hc, fun k => absurd ⟨c.2.2, by omega, by omega⟩ k⟩
    · have e : x.executionEnded = { x with liveCount := x.liveCount - 1 } := if_neg c
      obtain ⟨y, hy, hc, hh⟩ := ih x.executionEnded (by rw [e]; exact h)
      rw [e] at hc hh
      dsimp only at hc hh
      refine ⟨y, hy, fun k => hc ⟨k.1, ?_, by omega⟩, fun k => hh (fun r => k ⟨r.1, by omega, by omega⟩)⟩
      exact Nat.one_le_iff_ne_zero.2 (fun z => c ⟨by omega, h, k.1⟩)

theorem carryContingency_carried (n : Nat) (d : Option ContingencyDef) (x : Option Contingency) :
    contingencyCarried n d x (carryContingency d (Contingency.afterEnds n x)) := by
  refine ⟨fun h => by subst h; rfl, ?_⟩
  rintro e rfl
  refine ⟨?_, ?_⟩
  · rintro rfl
    have : Contingency.afterEnds n none = none := by
      induction n with
      | zero => rfl
      | succ n ih => rw [Contingency.afterEnds_succ]; exact ih
    rw [this]
    rfl
  · rintro k rfl
    refine ⟨fun h => ?_, fun h c => ?_, fun h c => ?_⟩
    · obtain ⟨y, hy, hc⟩ := Contingency.afterEnds_clear n k h
      simp [hy, carryContingency, hc, Contingency.cleared]
    · obtain ⟨y, hy, hc, -⟩ := Contingency.afterEnds_held n k h
      simp [hy, carryContingency, hc c, Contingency.cleared]
    · obtain ⟨y, hy, -, hh⟩ := Contingency.afterEnds_held n k h
      obtain ⟨h1, h2, h3, h4⟩ := hh c
      simp [hy, carryContingency, h1, h2, h3, h4, Contingency.cleared]

theorem carryScheme_carried (now : Time) (d : SchemeDef) (x : Option Scheme) (prepared : Option EvalRec) :
    schemeCarried now d prepared x (carryScheme now d x prepared) := by
  cases x with
  | none =>
    unfold schemeCarried carryScheme
    generalize carryRule d now none ((prepared.map EvalRec.q).getD 0) = c
    exact ⟨⟨rfl, rfl, rfl⟩, fun h => by simp [h], fun a h => by simp [h], rfl,
      fun _ => ⟨rfl, rfl, rfl, rfl⟩, fun _ h => nomatch h⟩
  | some z =>
    unfold schemeCarried carryScheme
    generalize carryRule d now (some z) ((prepared.map EvalRec.q).getD 0) = c
    dsimp only [Scheme.stamped]
    split
    · rename_i same
      refine ⟨⟨rfl, rfl, rfl⟩, fun h => by simp [h], fun a h => by simp [h], rfl, (fun h => nomatch h), ?_⟩
      rintro _ ⟨⟩
      exact ⟨rfl, rfl, rfl, (if_pos same.1.symm).symm⟩
    · rename_i moved
      refine ⟨⟨rfl, rfl, rfl⟩, fun h => by simp [h], fun a h => by simp [h], rfl, (fun h => nomatch h), ?_⟩
      rintro _ ⟨⟩
      exact ⟨rfl, rfl, rfl, (if_neg (fun h => moved ⟨h.symm, rfl⟩)).symm⟩

/-! ## Quiescence (R165) -/

theorem State.unsettled_iff (s : State) (k : Nat) : s.unsettled k = true ↔ s.unsettles k := by
  have small (i : Nat) (d : SchemeDef) (h : s.schemeDef i = some d) : i < 16 := by
    rcases Nat.lt_or_ge i 16 with hi | hi
    · exact hi
    · simp [State.schemeDef, rec?, Vector.getElem?_eq_none hi] at h
  have trigger (i : Nat) : i ∈ s.triggered k ↔ ∃ d, s.schemeDef i = some d ∧ d.trigger = k := by
    unfold State.triggered
    cases h : s.schemeDef i with
    | none => simp [h]
    | some d => simp [h, small i d h]
  unfold State.unsettled State.unsettles
  cases s.contingency? k with
  | none => simp
  | some x =>
    simp only [Option.some.injEq, exists_eq_left', Bool.or_eq_true, decide_eq_true_eq, Bool.not_eq_true',
      List.isEmpty_eq_false_iff, List.any_eq_true, trigger, or_assoc, Option.map_eq_some_iff]
    refine or_congr_right (or_congr_right ?_)
    exact ⟨fun ⟨i, ⟨d, h1, h2⟩, y, h3, h4⟩ => ⟨i, d, y, h1, h2, h3, h4⟩,
      fun ⟨i, d, y, h1, h2, h3, h4⟩ => ⟨i, ⟨d, h1, h2⟩, y, h3, h4⟩⟩

/-- `State.blocking` is the lowest-numbered contingency that keeps the part from being quiescent, where one does. -/
theorem State.blocking_least (s : State) (j : Nat) (h : s.unsettles j) :
    s.unsettles s.blocking ∧ s.blocking ≤ j := by
  have hj : j < 32 := by
    obtain ⟨x, hx, _⟩ := h
    rcases Nat.lt_or_ge j 32 with hj | hj
    · exact hj
    · simp [State.contingency?, rec?, Vector.getElem?_eq_none hj] at hx
  rw [← State.unsettled_iff] at h ⊢
  unfold State.blocking
  cases hf : (List.range 32).find? s.unsettled with
  | none => exact absurd h (List.find?_eq_none.1 hf j (List.mem_range.2 hj))
  | some k =>
    have least := List.find?_range_eq_some.1 hf
    refine ⟨least.1, ?_⟩
    rcases Nat.lt_or_ge j k with hlt | hle
    · exact absurd h (by simpa using least.2.2 j hlt)
    · exact hle

/-! ## Words of terms (Table 11-7) -/

theorem termBits_getLsbD (f : TermRec → Bool) (rs : List TermRec) (j : Nat) (h : j < 4) :
    (termBits f rs).getLsbD j = (rs[j]?.map f).getD false := by
  change BitVec.getLsbD (w := 1 + 1 + 1 + 1) _ j = _
  unfold termBits
  dsimp only
  simp only [BitVec.getLsbD_append, BitVec.getLsbD_ofBool]
  match j, h with
  | 0, _ => simp
  | 1, _ => simp
  | 2, _ => simp
  | 3, _ => simp

theorem State.detectedReport_word (s : State) (k : Nat) (x : Contingency) :
    ∃ w, detectedWord w x.degraded x.terms ∧ s.detectedReport k x = mkReport .contingencyDetected false s.now k
      [wordOf (s.now - x.firstEvidence.getD s.now).toNat, wordSet (s.triggered k), w] := by
  refine ⟨_, ?_, rfl⟩
  have bit (j : Nat) : BitVec.getLsbD (w := 1 + 11 + 4)
      (BitVec.ofBool x.degraded ++ (0 : BitVec 11) ++ termBits TermRec.degraded x.terms) j =
      if j < 4 then (termBits TermRec.degraded x.terms).getLsbD j
      else decide (j = 15) && x.degraded := by
    rw [BitVec.getLsbD_append, BitVec.getLsbD_append, BitVec.getLsbD_ofBool]
    refine ite_congr rfl (fun _ => rfl) (fun _ => ?_)
    split
    · rw [decide_eq_false (by omega)]
      exact BitVec.getLsbD_zero
    · rw [decide_eq_decide.2 (show j - 4 - 11 = 0 ↔ j = 15 by omega)]
  refine ⟨fun j h => ?_, (bit 15).trans (by simp), fun j h4 h15 => (bit j).trans ?_⟩
  · rw [Nat.zero_add, ← termBits_getLsbD _ _ j h]
    exact (bit j).trans (if_pos h)
  · simp [show ¬j < 4 by omega, show j ≠ 15 by omega]

theorem State.unconfirmedReport_word (s : State) (k : Nat) (x : Contingency) :
    ∃ w, unconfirmedWord w x.terms ∧
      let first := x.firstEvidence.getD s.now
      s.unconfirmedReport k x = mkReport .contingencyUnconfirmed false s.now k
        [first.extractLsb' 16 16, first.extractLsb' 0 16, w] := by
  refine ⟨_, ?_, rfl⟩
  have bit (a b c : BitVec 4) (j : Nat) : BitVec.getLsbD (w := 4 + 4 + 4 + 4) ((0 : BitVec 4) ++ a ++ b ++ c) j =
      if j < 4 then c.getLsbD j else if j - 4 < 4 then b.getLsbD (j - 4)
      else a.getLsbD (j - 4 - 4) := by
    rw [BitVec.getLsbD_append, BitVec.getLsbD_append, BitVec.getLsbD_append]
    refine ite_congr rfl (fun _ => rfl) (fun _ => ite_congr rfl (fun _ => rfl) (fun _ => ?_))
    split
    · rfl
    · rw [BitVec.getLsbD_of_ge a _ (by omega)]
      exact BitVec.getLsbD_zero
  refine ⟨fun j h => ?_, fun j h => ?_, fun j h => ?_, fun j h => ?_⟩
  · rw [← termBits_getLsbD _ _ j h]
    refine (bit _ _ _ _).trans ?_
    rw [if_neg (by omega), if_neg (by omega), show 8 + j - 4 - 4 = j by omega]
  · rw [← termBits_getLsbD _ _ j h]
    refine (bit _ _ _ _).trans ?_
    simp [h]
  · rw [← termBits_getLsbD _ _ j h, Nat.zero_add]
    exact (bit _ _ _ _).trans (if_pos h)
  · refine (bit _ _ _ _).trans ?_
    rw [if_neg (by omega), if_neg (by omega), BitVec.getLsbD_of_ge _ _ (by omega)]

end Sys2Proof.Machine
end

