-- ==== Sys2Proof/Laws/State.lean ====
section
/-! SUPPORT. What each elementary update of the state leaves in each field: one lemma for each field of
each update, true by definition. -/

namespace Sys2Proof.Machine

variable (s : State)

/-! ### tick -/

@[simp] theorem State.tick_now :
    (s.tick).now = s.now + 1 := rfl
@[simp] theorem State.tick_banks : (s.tick).banks = s.banks := rfl
@[simp] theorem State.tick_points : (s.tick).points = s.points := rfl
@[simp] theorem State.tick_views : (s.tick).views = s.views := rfl
@[simp] theorem State.tick_detector : (s.tick).detector = s.detector := rfl
@[simp] theorem State.tick_evaluator : (s.tick).evaluator = s.evaluator := rfl
@[simp] theorem State.tick_pool : (s.tick).pool = s.pool := rfl
@[simp] theorem State.tick_engine : (s.tick).engine = s.engine := rfl
@[simp] theorem State.tick_dispatcher : (s.tick).dispatcher = s.dispatcher := rfl
@[simp] theorem State.tick_units : (s.tick).units = s.units := rfl
@[simp] theorem State.tick_port : (s.tick).port = s.port := rfl
@[simp] theorem State.tick_reports : (s.tick).reports = s.reports := rfl
@[simp] theorem State.tick_inflight : (s.tick).inflight = s.inflight := rfl
@[simp] theorem State.tick_pending : (s.tick).pending = s.pending := rfl

/-! ### send -/

@[simp] theorem State.send_now (m : Msg) : (s.send m).now = s.now := rfl
@[simp] theorem State.send_banks (m : Msg) : (s.send m).banks = s.banks := rfl
@[simp] theorem State.send_points (m : Msg) : (s.send m).points = s.points := rfl
@[simp] theorem State.send_views (m : Msg) : (s.send m).views = s.views := rfl
@[simp] theorem State.send_detector (m : Msg) : (s.send m).detector = s.detector := rfl
@[simp] theorem State.send_evaluator (m : Msg) : (s.send m).evaluator = s.evaluator := rfl
@[simp] theorem State.send_pool (m : Msg) : (s.send m).pool = s.pool := rfl
@[simp] theorem State.send_engine (m : Msg) : (s.send m).engine = s.engine := rfl
@[simp] theorem State.send_dispatcher (m : Msg) : (s.send m).dispatcher = s.dispatcher := rfl
@[simp] theorem State.send_units (m : Msg) : (s.send m).units = s.units := rfl
@[simp] theorem State.send_port (m : Msg) : (s.send m).port = s.port := rfl
@[simp] theorem State.send_reports (m : Msg) : (s.send m).reports = s.reports := rfl
@[simp] theorem State.send_inflight (m : Msg) :
    (s.send m).inflight = s.inflight ++ [m] := rfl
@[simp] theorem State.send_pending (m : Msg) : (s.send m).pending = s.pending := rfl

/-! ### sendAll -/

@[simp] theorem State.sendAll_now (ms : List Msg) : (s.sendAll ms).now = s.now := rfl
@[simp] theorem State.sendAll_banks (ms : List Msg) : (s.sendAll ms).banks = s.banks := rfl
@[simp] theorem State.sendAll_points (ms : List Msg) : (s.sendAll ms).points = s.points := rfl
@[simp] theorem State.sendAll_views (ms : List Msg) : (s.sendAll ms).views = s.views := rfl
@[simp] theorem State.sendAll_detector (ms : List Msg) : (s.sendAll ms).detector = s.detector := rfl
@[simp] theorem State.sendAll_evaluator (ms : List Msg) : (s.sendAll ms).evaluator = s.evaluator := rfl
@[simp] theorem State.sendAll_pool (ms : List Msg) : (s.sendAll ms).pool = s.pool := rfl
@[simp] theorem State.sendAll_engine (ms : List Msg) : (s.sendAll ms).engine = s.engine := rfl
@[simp] theorem State.sendAll_dispatcher (ms : List Msg) : (s.sendAll ms).dispatcher = s.dispatcher := rfl
@[simp] theorem State.sendAll_units (ms : List Msg) : (s.sendAll ms).units = s.units := rfl
@[simp] theorem State.sendAll_port (ms : List Msg) : (s.sendAll ms).port = s.port := rfl
@[simp] theorem State.sendAll_reports (ms : List Msg) : (s.sendAll ms).reports = s.reports := rfl
@[simp] theorem State.sendAll_inflight (ms : List Msg) :
    (s.sendAll ms).inflight = s.inflight ++ ms := rfl
@[simp] theorem State.sendAll_pending (ms : List Msg) : (s.sendAll ms).pending = s.pending := rfl

/-! ### withdraw -/

@[simp] theorem State.withdraw_now (p : Msg → Bool) : (s.withdraw p).now = s.now := rfl
@[simp] theorem State.withdraw_banks (p : Msg → Bool) : (s.withdraw p).banks = s.banks := rfl
@[simp] theorem State.withdraw_points (p : Msg → Bool) : (s.withdraw p).points = s.points := rfl
@[simp] theorem State.withdraw_views (p : Msg → Bool) : (s.withdraw p).views = s.views := rfl
@[simp] theorem State.withdraw_detector (p : Msg → Bool) : (s.withdraw p).detector = s.detector := rfl
@[simp] theorem State.withdraw_evaluator (p : Msg → Bool) : (s.withdraw p).evaluator = s.evaluator := rfl
@[simp] theorem State.withdraw_pool (p : Msg → Bool) : (s.withdraw p).pool = s.pool := rfl
@[simp] theorem State.withdraw_engine (p : Msg → Bool) : (s.withdraw p).engine = s.engine := rfl
@[simp] theorem State.withdraw_dispatcher (p : Msg → Bool) : (s.withdraw p).dispatcher = s.dispatcher := rfl
@[simp] theorem State.withdraw_units (p : Msg → Bool) : (s.withdraw p).units = s.units := rfl
@[simp] theorem State.withdraw_port (p : Msg → Bool) : (s.withdraw p).port = s.port := rfl
@[simp] theorem State.withdraw_reports (p : Msg → Bool) : (s.withdraw p).reports = s.reports := rfl
@[simp] theorem State.withdraw_inflight (p : Msg → Bool) :
    (s.withdraw p).inflight = s.inflight.filter (fun m => !p m) := rfl
@[simp] theorem State.withdraw_pending (p : Msg → Bool) : (s.withdraw p).pending = s.pending := rfl

/-! ### report -/

@[simp] theorem State.report_now (r : Report) : (s.report r).now = s.now := rfl
@[simp] theorem State.report_banks (r : Report) : (s.report r).banks = s.banks := rfl
@[simp] theorem State.report_points (r : Report) : (s.report r).points = s.points := rfl
@[simp] theorem State.report_views (r : Report) : (s.report r).views = s.views := rfl
@[simp] theorem State.report_detector (r : Report) : (s.report r).detector = s.detector := rfl
@[simp] theorem State.report_evaluator (r : Report) : (s.report r).evaluator = s.evaluator := rfl
@[simp] theorem State.report_pool (r : Report) : (s.report r).pool = s.pool := rfl
@[simp] theorem State.report_engine (r : Report) : (s.report r).engine = s.engine := rfl
@[simp] theorem State.report_dispatcher (r : Report) : (s.report r).dispatcher = s.dispatcher := rfl
@[simp] theorem State.report_units (r : Report) : (s.report r).units = s.units := rfl
@[simp] theorem State.report_port (r : Report) : (s.report r).port = s.port := rfl
@[simp] theorem State.report_reports (r : Report) :
    (s.report r).reports = s.reports.offer r := rfl
@[simp] theorem State.report_inflight (r : Report) : (s.report r).inflight = s.inflight := rfl
@[simp] theorem State.report_pending (r : Report) : (s.report r).pending = s.pending := rfl

/-! ### formReply -/

@[simp] theorem State.formReply_now (r : Reply) : (s.formReply r).now = s.now := rfl
@[simp] theorem State.formReply_banks (r : Reply) : (s.formReply r).banks = s.banks := rfl
@[simp] theorem State.formReply_points (r : Reply) : (s.formReply r).points = s.points := rfl
@[simp] theorem State.formReply_views (r : Reply) : (s.formReply r).views = s.views := rfl
@[simp] theorem State.formReply_detector (r : Reply) : (s.formReply r).detector = s.detector := rfl
@[simp] theorem State.formReply_evaluator (r : Reply) : (s.formReply r).evaluator = s.evaluator := rfl
@[simp] theorem State.formReply_pool (r : Reply) : (s.formReply r).pool = s.pool := rfl
@[simp] theorem State.formReply_engine (r : Reply) : (s.formReply r).engine = s.engine := rfl
@[simp] theorem State.formReply_dispatcher (r : Reply) : (s.formReply r).dispatcher = s.dispatcher := rfl
@[simp] theorem State.formReply_units (r : Reply) : (s.formReply r).units = s.units := rfl
@[simp] theorem State.formReply_port (r : Reply) :
    (s.formReply r).port = { s.port with replies := s.port.replies ++ [r] } := rfl
@[simp] theorem State.formReply_reports (r : Reply) : (s.formReply r).reports = s.reports := rfl
@[simp] theorem State.formReply_inflight (r : Reply) : (s.formReply r).inflight = s.inflight := rfl
@[simp] theorem State.formReply_pending (r : Reply) : (s.formReply r).pending = s.pending := rfl

/-! ### setScheme -/

@[simp] theorem State.setScheme_now (i : Nat) (x : Scheme) : (s.setScheme i x).now = s.now := rfl
@[simp] theorem State.setScheme_banks (i : Nat) (x : Scheme) : (s.setScheme i x).banks = s.banks := rfl
@[simp] theorem State.setScheme_points (i : Nat) (x : Scheme) : (s.setScheme i x).points = s.points := rfl
@[simp] theorem State.setScheme_views (i : Nat) (x : Scheme) : (s.setScheme i x).views = s.views := rfl
@[simp] theorem State.setScheme_detector (i : Nat) (x : Scheme) : (s.setScheme i x).detector = s.detector := rfl
@[simp] theorem State.setScheme_evaluator (i : Nat) (x : Scheme) :
    (s.setScheme i x).evaluator = { s.evaluator with schemes := put s.evaluator.schemes i (some x) } := rfl
@[simp] theorem State.setScheme_pool (i : Nat) (x : Scheme) : (s.setScheme i x).pool = s.pool := rfl
@[simp] theorem State.setScheme_engine (i : Nat) (x : Scheme) : (s.setScheme i x).engine = s.engine := rfl
@[simp] theorem State.setScheme_dispatcher (i : Nat) (x : Scheme) : (s.setScheme i x).dispatcher = s.dispatcher := rfl
@[simp] theorem State.setScheme_units (i : Nat) (x : Scheme) : (s.setScheme i x).units = s.units := rfl
@[simp] theorem State.setScheme_port (i : Nat) (x : Scheme) : (s.setScheme i x).port = s.port := rfl
@[simp] theorem State.setScheme_reports (i : Nat) (x : Scheme) : (s.setScheme i x).reports = s.reports := rfl
@[simp] theorem State.setScheme_inflight (i : Nat) (x : Scheme) : (s.setScheme i x).inflight = s.inflight := rfl
@[simp] theorem State.setScheme_pending (i : Nat) (x : Scheme) : (s.setScheme i x).pending = s.pending := rfl

/-! ### setAction -/

@[simp] theorem State.setAction_now (i : Nat) (x : Action) : (s.setAction i x).now = s.now := rfl
@[simp] theorem State.setAction_banks (i : Nat) (x : Action) : (s.setAction i x).banks = s.banks := rfl
@[simp] theorem State.setAction_points (i : Nat) (x : Action) : (s.setAction i x).points = s.points := rfl
@[simp] theorem State.setAction_views (i : Nat) (x : Action) : (s.setAction i x).views = s.views := rfl
@[simp] theorem State.setAction_detector (i : Nat) (x : Action) : (s.setAction i x).detector = s.detector := rfl
@[simp] theorem State.setAction_evaluator (i : Nat) (x : Action) : (s.setAction i x).evaluator = s.evaluator := rfl
@[simp] theorem State.setAction_pool (i : Nat) (x : Action) :
    (s.setAction i x).pool = { s.pool with actions := put s.pool.actions i (some x) } := rfl
@[simp] theorem State.setAction_engine (i : Nat) (x : Action) : (s.setAction i x).engine = s.engine := rfl
@[simp] theorem State.setAction_dispatcher (i : Nat) (x : Action) : (s.setAction i x).dispatcher = s.dispatcher := rfl
@[simp] theorem State.setAction_units (i : Nat) (x : Action) : (s.setAction i x).units = s.units := rfl
@[simp] theorem State.setAction_port (i : Nat) (x : Action) : (s.setAction i x).port = s.port := rfl
@[simp] theorem State.setAction_reports (i : Nat) (x : Action) : (s.setAction i x).reports = s.reports := rfl
@[simp] theorem State.setAction_inflight (i : Nat) (x : Action) : (s.setAction i x).inflight = s.inflight := rfl
@[simp] theorem State.setAction_pending (i : Nat) (x : Action) : (s.setAction i x).pending = s.pending := rfl

/-! ### setExec -/

@[simp] theorem State.setExec_now (i : Nat) (x : Option Exec) : (s.setExec i x).now = s.now := rfl
@[simp] theorem State.setExec_banks (i : Nat) (x : Option Exec) : (s.setExec i x).banks = s.banks := rfl
@[simp] theorem State.setExec_points (i : Nat) (x : Option Exec) : (s.setExec i x).points = s.points := rfl
@[simp] theorem State.setExec_views (i : Nat) (x : Option Exec) : (s.setExec i x).views = s.views := rfl
@[simp] theorem State.setExec_detector (i : Nat) (x : Option Exec) : (s.setExec i x).detector = s.detector := rfl
@[simp] theorem State.setExec_evaluator (i : Nat) (x : Option Exec) : (s.setExec i x).evaluator = s.evaluator := rfl
@[simp] theorem State.setExec_pool (i : Nat) (x : Option Exec) : (s.setExec i x).pool = s.pool := rfl
@[simp] theorem State.setExec_engine (i : Nat) (x : Option Exec) : (s.setExec i x).engine = s.engine := rfl
@[simp] theorem State.setExec_dispatcher (i : Nat) (x : Option Exec) :
    (s.setExec i x).dispatcher = { s.dispatcher with execs := put s.dispatcher.execs i x } := rfl
@[simp] theorem State.setExec_units (i : Nat) (x : Option Exec) : (s.setExec i x).units = s.units := rfl
@[simp] theorem State.setExec_port (i : Nat) (x : Option Exec) : (s.setExec i x).port = s.port := rfl
@[simp] theorem State.setExec_reports (i : Nat) (x : Option Exec) : (s.setExec i x).reports = s.reports := rfl
@[simp] theorem State.setExec_inflight (i : Nat) (x : Option Exec) : (s.setExec i x).inflight = s.inflight := rfl
@[simp] theorem State.setExec_pending (i : Nat) (x : Option Exec) : (s.setExec i x).pending = s.pending := rfl

/-! ### setContingency -/

@[simp] theorem State.setContingency_now (i : Nat) (x : Contingency) : (s.setContingency i x).now = s.now := rfl
@[simp] theorem State.setContingency_banks (i : Nat) (x : Contingency) : (s.setContingency i x).banks = s.banks := rfl
@[simp] theorem State.setContingency_points (i : Nat) (x : Contingency) : (s.setContingency i x).points = s.points := rfl
@[simp] theorem State.setContingency_views (i : Nat) (x : Contingency) : (s.setContingency i x).views = s.views := rfl
@[simp] theorem State.setContingency_detector (i : Nat) (x : Contingency) :
    (s.setContingency i x).detector = put s.detector i (some x) := rfl
@[simp] theorem State.setContingency_evaluator (i : Nat) (x : Contingency) : (s.setContingency i x).evaluator = s.evaluator := rfl
@[simp] theorem State.setContingency_pool (i : Nat) (x : Contingency) : (s.setContingency i x).pool = s.pool := rfl
@[simp] theorem State.setContingency_engine (i : Nat) (x : Contingency) : (s.setContingency i x).engine = s.engine := rfl
@[simp] theorem State.setContingency_dispatcher (i : Nat) (x : Contingency) : (s.setContingency i x).dispatcher = s.dispatcher := rfl
@[simp] theorem State.setContingency_units (i : Nat) (x : Contingency) : (s.setContingency i x).units = s.units := rfl
@[simp] theorem State.setContingency_port (i : Nat) (x : Contingency) : (s.setContingency i x).port = s.port := rfl
@[simp] theorem State.setContingency_reports (i : Nat) (x : Contingency) : (s.setContingency i x).reports = s.reports := rfl
@[simp] theorem State.setContingency_inflight (i : Nat) (x : Contingency) : (s.setContingency i x).inflight = s.inflight := rfl
@[simp] theorem State.setContingency_pending (i : Nat) (x : Contingency) : (s.setContingency i x).pending = s.pending := rfl

/-! ### setChannel -/

@[simp] theorem State.setChannel_now (i : Nat) (x : Channel) : (s.setChannel i x).now = s.now := rfl
@[simp] theorem State.setChannel_banks (i : Nat) (x : Channel) : (s.setChannel i x).banks = s.banks := rfl
@[simp] theorem State.setChannel_points (i : Nat) (x : Channel) : (s.setChannel i x).points = s.points := rfl
@[simp] theorem State.setChannel_views (i : Nat) (x : Channel) : (s.setChannel i x).views = s.views := rfl
@[simp] theorem State.setChannel_detector (i : Nat) (x : Channel) : (s.setChannel i x).detector = s.detector := rfl
@[simp] theorem State.setChannel_evaluator (i : Nat) (x : Channel) : (s.setChannel i x).evaluator = s.evaluator := rfl
@[simp] theorem State.setChannel_pool (i : Nat) (x : Channel) : (s.setChannel i x).pool = s.pool := rfl
@[simp] theorem State.setChannel_engine (i : Nat) (x : Channel) : (s.setChannel i x).engine = s.engine := rfl
@[simp] theorem State.setChannel_dispatcher (i : Nat) (x : Channel) : (s.setChannel i x).dispatcher = s.dispatcher := rfl
@[simp] theorem State.setChannel_units (i : Nat) (x : Channel) :
    (s.setChannel i x).units = { s.units with channels := put s.units.channels i x } := rfl
@[simp] theorem State.setChannel_port (i : Nat) (x : Channel) : (s.setChannel i x).port = s.port := rfl
@[simp] theorem State.setChannel_reports (i : Nat) (x : Channel) : (s.setChannel i x).reports = s.reports := rfl
@[simp] theorem State.setChannel_inflight (i : Nat) (x : Channel) : (s.setChannel i x).inflight = s.inflight := rfl
@[simp] theorem State.setChannel_pending (i : Nat) (x : Channel) : (s.setChannel i x).pending = s.pending := rfl

/-! ### setSite -/

@[simp] theorem State.setSite_now (i : Nat) (x : Site) : (s.setSite i x).now = s.now := rfl
@[simp] theorem State.setSite_banks (i : Nat) (x : Site) : (s.setSite i x).banks = s.banks := rfl
@[simp] theorem State.setSite_points (i : Nat) (x : Site) : (s.setSite i x).points = s.points := rfl
@[simp] theorem State.setSite_views (i : Nat) (x : Site) : (s.setSite i x).views = s.views := rfl
@[simp] theorem State.setSite_detector (i : Nat) (x : Site) : (s.setSite i x).detector = s.detector := rfl
@[simp] theorem State.setSite_evaluator (i : Nat) (x : Site) : (s.setSite i x).evaluator = s.evaluator := rfl
@[simp] theorem State.setSite_pool (i : Nat) (x : Site) : (s.setSite i x).pool = s.pool := rfl
@[simp] theorem State.setSite_engine (i : Nat) (x : Site) : (s.setSite i x).engine = s.engine := rfl
@[simp] theorem State.setSite_dispatcher (i : Nat) (x : Site) : (s.setSite i x).dispatcher = s.dispatcher := rfl
@[simp] theorem State.setSite_units (i : Nat) (x : Site) :
    (s.setSite i x).units = { s.units with sites := put s.units.sites i x } := rfl
@[simp] theorem State.setSite_port (i : Nat) (x : Site) : (s.setSite i x).port = s.port := rfl
@[simp] theorem State.setSite_reports (i : Nat) (x : Site) : (s.setSite i x).reports = s.reports := rfl
@[simp] theorem State.setSite_inflight (i : Nat) (x : Site) : (s.setSite i x).inflight = s.inflight := rfl
@[simp] theorem State.setSite_pending (i : Nat) (x : Site) : (s.setSite i x).pending = s.pending := rfl

/-! ### setLink -/

@[simp] theorem State.setLink_now (c site : Nat) (x : Link) : (s.setLink c site x).now = s.now := rfl
@[simp] theorem State.setLink_banks (c site : Nat) (x : Link) : (s.setLink c site x).banks = s.banks := rfl
@[simp] theorem State.setLink_points (c site : Nat) (x : Link) : (s.setLink c site x).points = s.points := rfl
@[simp] theorem State.setLink_views (c site : Nat) (x : Link) : (s.setLink c site x).views = s.views := rfl
@[simp] theorem State.setLink_detector (c site : Nat) (x : Link) : (s.setLink c site x).detector = s.detector := rfl
@[simp] theorem State.setLink_evaluator (c site : Nat) (x : Link) : (s.setLink c site x).evaluator = s.evaluator := rfl
@[simp] theorem State.setLink_pool (c site : Nat) (x : Link) : (s.setLink c site x).pool = s.pool := rfl
@[simp] theorem State.setLink_engine (c site : Nat) (x : Link) : (s.setLink c site x).engine = s.engine := rfl
@[simp] theorem State.setLink_dispatcher (c site : Nat) (x : Link) : (s.setLink c site x).dispatcher = s.dispatcher := rfl
@[simp] theorem State.setLink_units (c site : Nat) (x : Link) :
    (s.setLink c site x).units = { s.units with links := put s.units.links c (put (item s.units.links c (Vector.replicate 16 Link.clear)) site x) } := rfl
@[simp] theorem State.setLink_port (c site : Nat) (x : Link) : (s.setLink c site x).port = s.port := rfl
@[simp] theorem State.setLink_reports (c site : Nat) (x : Link) : (s.setLink c site x).reports = s.reports := rfl
@[simp] theorem State.setLink_inflight (c site : Nat) (x : Link) : (s.setLink c site x).inflight = s.inflight := rfl
@[simp] theorem State.setLink_pending (c site : Nat) (x : Link) : (s.setLink c site x).pending = s.pending := rfl

/-! ### setEngine -/

@[simp] theorem State.setEngine_now (e : Engine) : (s.setEngine e).now = s.now := rfl
@[simp] theorem State.setEngine_banks (e : Engine) : (s.setEngine e).banks = s.banks := rfl
@[simp] theorem State.setEngine_points (e : Engine) : (s.setEngine e).points = s.points := rfl
@[simp] theorem State.setEngine_views (e : Engine) : (s.setEngine e).views = s.views := rfl
@[simp] theorem State.setEngine_detector (e : Engine) : (s.setEngine e).detector = s.detector := rfl
@[simp] theorem State.setEngine_evaluator (e : Engine) : (s.setEngine e).evaluator = s.evaluator := rfl
@[simp] theorem State.setEngine_pool (e : Engine) : (s.setEngine e).pool = s.pool := rfl
@[simp] theorem State.setEngine_engine (e : Engine) :
    (s.setEngine e).engine = e := rfl
@[simp] theorem State.setEngine_dispatcher (e : Engine) : (s.setEngine e).dispatcher = s.dispatcher := rfl
@[simp] theorem State.setEngine_units (e : Engine) : (s.setEngine e).units = s.units := rfl
@[simp] theorem State.setEngine_port (e : Engine) : (s.setEngine e).port = s.port := rfl
@[simp] theorem State.setEngine_reports (e : Engine) : (s.setEngine e).reports = s.reports := rfl
@[simp] theorem State.setEngine_inflight (e : Engine) : (s.setEngine e).inflight = s.inflight := rfl
@[simp] theorem State.setEngine_pending (e : Engine) : (s.setEngine e).pending = s.pending := rfl

/-! ### setImage -/

@[simp] theorem State.setImage_now (i : Nat) (x : Image) : (s.setImage i x).now = s.now := rfl
@[simp] theorem State.setImage_banks (i : Nat) (x : Image) : (s.setImage i x).banks = s.banks := rfl
@[simp] theorem State.setImage_points (i : Nat) (x : Image) : (s.setImage i x).points = s.points := rfl
@[simp] theorem State.setImage_views (i : Nat) (x : Image) : (s.setImage i x).views = s.views := rfl
@[simp] theorem State.setImage_detector (i : Nat) (x : Image) : (s.setImage i x).detector = s.detector := rfl
@[simp] theorem State.setImage_evaluator (i : Nat) (x : Image) : (s.setImage i x).evaluator = s.evaluator := rfl
@[simp] theorem State.setImage_pool (i : Nat) (x : Image) : (s.setImage i x).pool = s.pool := rfl
@[simp] theorem State.setImage_engine (i : Nat) (x : Image) :
    (s.setImage i x).engine = { s.engine with images := put s.engine.images i x } := rfl
@[simp] theorem State.setImage_dispatcher (i : Nat) (x : Image) : (s.setImage i x).dispatcher = s.dispatcher := rfl
@[simp] theorem State.setImage_units (i : Nat) (x : Image) : (s.setImage i x).units = s.units := rfl
@[simp] theorem State.setImage_port (i : Nat) (x : Image) : (s.setImage i x).port = s.port := rfl
@[simp] theorem State.setImage_reports (i : Nat) (x : Image) : (s.setImage i x).reports = s.reports := rfl
@[simp] theorem State.setImage_inflight (i : Nat) (x : Image) : (s.setImage i x).inflight = s.inflight := rfl
@[simp] theorem State.setImage_pending (i : Nat) (x : Image) : (s.setImage i x).pending = s.pending := rfl

/-! ### mapOrders -/

@[simp] theorem State.mapOrders_now (f : Order → Order) : (s.mapOrders f).now = s.now := rfl
@[simp] theorem State.mapOrders_banks (f : Order → Order) : (s.mapOrders f).banks = s.banks := rfl
@[simp] theorem State.mapOrders_points (f : Order → Order) : (s.mapOrders f).points = s.points := rfl
@[simp] theorem State.mapOrders_views (f : Order → Order) : (s.mapOrders f).views = s.views := rfl
@[simp] theorem State.mapOrders_detector (f : Order → Order) : (s.mapOrders f).detector = s.detector := rfl
@[simp] theorem State.mapOrders_evaluator (f : Order → Order) : (s.mapOrders f).evaluator = s.evaluator := rfl
@[simp] theorem State.mapOrders_pool (f : Order → Order) : (s.mapOrders f).pool = s.pool := rfl
@[simp] theorem State.mapOrders_engine (f : Order → Order) : (s.mapOrders f).engine = s.engine := rfl
@[simp] theorem State.mapOrders_dispatcher (f : Order → Order) :
    (s.mapOrders f).dispatcher = { s.dispatcher with orders := s.dispatcher.orders.map f } := rfl
@[simp] theorem State.mapOrders_units (f : Order → Order) : (s.mapOrders f).units = s.units := rfl
@[simp] theorem State.mapOrders_port (f : Order → Order) : (s.mapOrders f).port = s.port := rfl
@[simp] theorem State.mapOrders_reports (f : Order → Order) : (s.mapOrders f).reports = s.reports := rfl
@[simp] theorem State.mapOrders_inflight (f : Order → Order) : (s.mapOrders f).inflight = s.inflight := rfl
@[simp] theorem State.mapOrders_pending (f : Order → Order) : (s.mapOrders f).pending = s.pending := rfl

/-! ### replyTo -/

@[simp] theorem State.replyTo_now (r : Request) (reason : Reason) (content : List Word) : (s.replyTo r reason content).now = s.now := rfl
@[simp] theorem State.replyTo_banks (r : Request) (reason : Reason) (content : List Word) : (s.replyTo r reason content).banks = s.banks := rfl
@[simp] theorem State.replyTo_points (r : Request) (reason : Reason) (content : List Word) : (s.replyTo r reason content).points = s.points := rfl
@[simp] theorem State.replyTo_views (r : Request) (reason : Reason) (content : List Word) : (s.replyTo r reason content).views = s.views := rfl
@[simp] theorem State.replyTo_detector (r : Request) (reason : Reason) (content : List Word) : (s.replyTo r reason content).detector = s.detector := rfl
@[simp] theorem State.replyTo_evaluator (r : Request) (reason : Reason) (content : List Word) : (s.replyTo r reason content).evaluator = s.evaluator := rfl
@[simp] theorem State.replyTo_pool (r : Request) (reason : Reason) (content : List Word) : (s.replyTo r reason content).pool = s.pool := rfl
@[simp] theorem State.replyTo_engine (r : Request) (reason : Reason) (content : List Word) : (s.replyTo r reason content).engine = s.engine := rfl
@[simp] theorem State.replyTo_dispatcher (r : Request) (reason : Reason) (content : List Word) : (s.replyTo r reason content).dispatcher = s.dispatcher := rfl
@[simp] theorem State.replyTo_units (r : Request) (reason : Reason) (content : List Word) : (s.replyTo r reason content).units = s.units := rfl
@[simp] theorem State.replyTo_port (r : Request) (reason : Reason) (content : List Word) :
    (s.replyTo r reason content).port = { s.port with
      requests := advanceRequest .waiting .replied s.port.requests
      replies := s.port.replies ++ [⟨r.kind, r.tag, reason, content, false⟩] } := rfl
@[simp] theorem State.replyTo_reports (r : Request) (reason : Reason) (content : List Word) : (s.replyTo r reason content).reports = s.reports := rfl
@[simp] theorem State.replyTo_inflight (r : Request) (reason : Reason) (content : List Word) : (s.replyTo r reason content).inflight = s.inflight := rfl
@[simp] theorem State.replyTo_pending (r : Request) (reason : Reason) (content : List Word) : (s.replyTo r reason content).pending = s.pending := rfl

/-! ### hold -/

@[simp] theorem State.hold_now : (s.hold).now = s.now := rfl
@[simp] theorem State.hold_banks : (s.hold).banks = s.banks := rfl
@[simp] theorem State.hold_points : (s.hold).points = s.points := rfl
@[simp] theorem State.hold_views : (s.hold).views = s.views := rfl
@[simp] theorem State.hold_detector : (s.hold).detector = s.detector := rfl
@[simp] theorem State.hold_evaluator : (s.hold).evaluator = s.evaluator := rfl
@[simp] theorem State.hold_pool : (s.hold).pool = s.pool := rfl
@[simp] theorem State.hold_engine : (s.hold).engine = s.engine := rfl
@[simp] theorem State.hold_dispatcher : (s.hold).dispatcher = s.dispatcher := rfl
@[simp] theorem State.hold_units : (s.hold).units = s.units := rfl
@[simp] theorem State.hold_port :
    (s.hold).port = { s.port with requests := advanceRequest .waiting .running s.port.requests } := rfl
@[simp] theorem State.hold_reports : (s.hold).reports = s.reports := rfl
@[simp] theorem State.hold_inflight : (s.hold).inflight = s.inflight := rfl
@[simp] theorem State.hold_pending : (s.hold).pending = s.pending := rfl

/-! ### mapStaged -/

@[simp] theorem State.mapStaged_now (f : Bank → Bank) : (s.mapStaged f).now = s.now := rfl
@[simp] theorem State.mapStaged_banks (f : Bank → Bank) :
    (s.mapStaged f).banks = { s.banks with staged := f s.banks.staged } := rfl
@[simp] theorem State.mapStaged_points (f : Bank → Bank) : (s.mapStaged f).points = s.points := rfl
@[simp] theorem State.mapStaged_views (f : Bank → Bank) : (s.mapStaged f).views = s.views := rfl
@[simp] theorem State.mapStaged_detector (f : Bank → Bank) : (s.mapStaged f).detector = s.detector := rfl
@[simp] theorem State.mapStaged_evaluator (f : Bank → Bank) : (s.mapStaged f).evaluator = s.evaluator := rfl
@[simp] theorem State.mapStaged_pool (f : Bank → Bank) : (s.mapStaged f).pool = s.pool := rfl
@[simp] theorem State.mapStaged_engine (f : Bank → Bank) : (s.mapStaged f).engine = s.engine := rfl
@[simp] theorem State.mapStaged_dispatcher (f : Bank → Bank) : (s.mapStaged f).dispatcher = s.dispatcher := rfl
@[simp] theorem State.mapStaged_units (f : Bank → Bank) : (s.mapStaged f).units = s.units := rfl
@[simp] theorem State.mapStaged_port (f : Bank → Bank) : (s.mapStaged f).port = s.port := rfl
@[simp] theorem State.mapStaged_reports (f : Bank → Bank) : (s.mapStaged f).reports = s.reports := rfl
@[simp] theorem State.mapStaged_inflight (f : Bank → Bank) : (s.mapStaged f).inflight = s.inflight := rfl
@[simp] theorem State.mapStaged_pending (f : Bank → Bank) : (s.mapStaged f).pending = s.pending := rfl

end Sys2Proof.Machine
end

