-- ==== Sys2Proof/Laws/Frames.lean ====
section
/-! SUPPORT. For every operation that changes the state: which parts it can change, and that it touches the
Report Queue only by offering reports. -/

namespace Sys2Proof.Machine

/-! ## The relation -/

/-- Of all parts only those of `ps` can differ, and the Report Queue has only been offered reports. -/
structure Within (ps : List Part) (s t : State) : Prop where
  same : onlyChanges ps s t
  offers : ∃ rs, reportsOffered rs s t

theorem onlyChanges.refl (ps : List Part) (s : State) : onlyChanges ps s s := by
  intro p _
  cases p <;> simp [Part.same]

theorem Part.same.trans {p : Part} {s t u : State} (h : p.same s t) (k : p.same t u) : p.same s u := by
  cases p <;> simp_all [Part.same]

theorem onlyChanges.trans {ps : List Part} {s t u : State} (h : onlyChanges ps s t)
    (k : onlyChanges ps t u) : onlyChanges ps s u :=
  fun p hp => (h p hp).trans (k p hp)

theorem onlyChanges.mono {ps qs : List Part} {s t : State} (h : onlyChanges ps s t) (hs : ps ⊆ qs) :
    onlyChanges qs s t :=
  fun p hp => h p (fun hm => hp (hs hm))

theorem Within.refl (ps : List Part) (s : State) : Within ps s s :=
  ⟨onlyChanges.refl ps s, [], rfl⟩

theorem Within.trans {ps : List Part} {s t u : State} (h : Within ps s t) (k : Within ps t u) :
    Within ps s u := by
  refine ⟨h.same.trans k.same, ?_⟩
  obtain ⟨rs, hr⟩ := h.offers
  obtain ⟨ts, ht⟩ := k.offers
  exact ⟨rs ++ ts, by simp_all [reportsOffered]⟩

theorem Within.then {ps qs : List Part} {s t u : State} (k : Within qs t u) (hs : qs ⊆ ps)
    (h : Within ps s t) : Within ps s u :=
  h.trans ⟨k.same.mono hs, k.offers⟩

theorem Within.foldl {α : Type} {ps : List Part} {f : State → α → State}
    (hf : ∀ s x, Within ps s (f s x)) (l : List α) (s : State) : Within ps s (l.foldl f s) := by
  induction l generalizing s with
  | nil => exact Within.refl ps s
  | cons x l ih => exact (hf s x).trans (ih (f s x))

/-- An update that keeps the Report Queue. -/
theorem Within.of_same {ps : List Part} {s t : State} (h : onlyChanges ps s t)
    (hr : t.reports = s.reports) : Within ps s t :=
  ⟨h, [], hr⟩


/-! ## Elementary updates -/

theorem State.tick_within (s : State) :
    Within [.time] s (s.tick) := by
  exact Within.of_same (by intro p hp; cases p <;> simp_all [Part.same]) (by simp)

theorem State.send_within (s : State) (m : Msg) :
    Within [.messages] s (s.send m) := by
  exact Within.of_same (by intro p hp; cases p <;> simp_all [Part.same]) (by simp)

theorem State.sendAll_within (s : State) (ms : List Msg) :
    Within [.messages] s (s.sendAll ms) := by
  exact Within.of_same (by intro p hp; cases p <;> simp_all [Part.same]) (by simp)

theorem State.withdraw_within (s : State) (p : Msg → Bool) :
    Within [.messages] s (s.withdraw p) := by
  exact Within.of_same (by intro p hp; cases p <;> simp_all [Part.same]) (by simp)

theorem State.formReply_within (s : State) (r : Reply) :
    Within [.requests] s (s.formReply r) := by
  exact Within.of_same (by intro p hp; cases p <;> simp_all [Part.same]) (by simp)

theorem State.setScheme_within (s : State) (i : Nat) (x : Scheme) :
    Within [.schemes] s (s.setScheme i x) := by
  exact Within.of_same (by intro p hp; cases p <;> simp_all [Part.same]) (by simp)

theorem State.setAction_within (s : State) (i : Nat) (x : Action) :
    Within [.actions] s (s.setAction i x) := by
  exact Within.of_same (by intro p hp; cases p <;> simp_all [Part.same]) (by simp)

theorem State.setExec_within (s : State) (i : Nat) (x : Option Exec) :
    Within [.executions] s (s.setExec i x) := by
  exact Within.of_same (by intro p hp; cases p <;> simp_all [Part.same]) (by simp)

theorem State.setContingency_within (s : State) (i : Nat) (x : Contingency) :
    Within [.contingencies] s (s.setContingency i x) := by
  exact Within.of_same (by intro p hp; cases p <;> simp_all [Part.same]) (by simp)

theorem State.setChannel_within (s : State) (i : Nat) (x : Channel) :
    Within [.channels] s (s.setChannel i x) := by
  exact Within.of_same (by intro p hp; cases p <;> simp_all [Part.same]) (by simp)

theorem State.setSite_within (s : State) (i : Nat) (x : Site) :
    Within [.sites] s (s.setSite i x) := by
  exact Within.of_same (by intro p hp; cases p <;> simp_all [Part.same]) (by simp)

theorem State.setLink_within (s : State) (c : Nat) (site : Nat) (x : Link) :
    Within [.links] s (s.setLink c site x) := by
  exact Within.of_same (by intro p hp; cases p <;> simp_all [Part.same]) (by simp)

theorem State.setEngine_within (s : State) (e : Engine) :
    Within [.preparation, .engineWork, .selections, .images] s (s.setEngine e) := by
  exact Within.of_same (by intro p hp; cases p <;> simp_all [Part.same]) (by simp)

theorem State.setImage_within (s : State) (i : Nat) (x : Image) :
    Within [.images] s (s.setImage i x) := by
  exact Within.of_same (by intro p hp; cases p <;> simp_all [Part.same]) (by simp)

theorem State.mapOrders_within (s : State) (f : Order → Order) :
    Within [.orders] s (s.mapOrders f) := by
  exact Within.of_same (by intro p hp; cases p <;> simp_all [Part.same]) (by simp)

theorem State.replyTo_within (s : State) (r : Request) (reason : Reason) (content : List Word) :
    Within [.requests] s (s.replyTo r reason content) := by
  exact Within.of_same (by intro p hp; cases p <;> simp_all [Part.same]) (by simp)

theorem State.hold_within (s : State) :
    Within [.requests] s (s.hold) := by
  exact Within.of_same (by intro p hp; cases p <;> simp_all [Part.same]) (by simp)

theorem State.mapStaged_within (s : State) (f : Bank → Bank) :
    Within [.stagedBank] s (s.mapStaged f) := by
  exact Within.of_same (by intro p hp; cases p <;> simp_all [Part.same]) (by simp)

theorem State.setEngine_keeps {ps : List Part} (s : State) (e : Engine)
    (h : onlyChanges ps s (s.setEngine e)) : Within ps s (s.setEngine e) :=
  Within.of_same h (by simp)

theorem State.report_within (s : State) (r : Report) : Within [.reports] s (s.report r) :=
  ⟨by intro p hp; cases p <;> simp_all [Part.same], [r], rfl⟩

/-! ## Operations -/

@[simp] theorem Engine.dropWork_keeps (e : Engine) (k : PlanKind) (sch : Nat) :
    (e.dropWork k sch).known = e.known ∧ (e.dropWork k sch).held = e.held ∧
    (e.dropWork k sch).cover = e.cover ∧ (e.dropWork k sch).published = e.published ∧
    (e.dropWork k sch).shadow = e.shadow ∧ (e.dropWork k sch).images = e.images :=
  ⟨rfl, rfl, rfl, rfl, rfl, rfl⟩

@[simp] theorem Engine.dropAllShadow_keeps (e : Engine) :
    e.dropAllShadow.known = e.known ∧ e.dropAllShadow.held = e.held ∧
    e.dropAllShadow.cover = e.cover ∧ e.dropAllShadow.published = e.published ∧
    e.dropAllShadow.images = e.images :=
  ⟨rfl, rfl, rfl, rfl, rfl⟩

@[simp] theorem Engine.dropCover_keeps (e : Engine) (sch : Nat) :
    (e.dropCover sch).known = e.known ∧ (e.dropCover sch).held = e.held ∧
    (e.dropCover sch).queue = e.queue ∧ (e.dropCover sch).suspended = e.suspended ∧
    (e.dropCover sch).published = e.published ∧ (e.dropCover sch).shadow = e.shadow ∧
    (e.dropCover sch).images = e.images :=
  ⟨rfl, rfl, rfl, rfl, rfl, rfl, rfl⟩


theorem State.take_eq {α : Type} {s t : State} {lane : Msg → Bool} {f : Msg → Option α} {a : α}
    (h : s.take lane f = some (a, t)) :
    ∃ m, s.inflight.find? lane = some m ∧ f m = some a ∧
      t = { s with inflight := s.inflight.eraseP lane } := by
  unfold State.take at h
  split at h
  · exact absurd h (by simp)
  · rename_i m hm
    split at h
    · exact absurd h (by simp)
    · rename_i b hb
      obtain ⟨rfl, rfl⟩ := Prod.mk.inj (Option.some.inj h)
      exact ⟨m, hm, hb, rfl⟩

theorem State.take_within {α : Type} {s t : State} {lane : Msg → Bool} {f : Msg → Option α} {a : α}
    (h : s.take lane f = some (a, t)) : Within [.messages] s t := by
  obtain ⟨m, -, -, rfl⟩ := State.take_eq h
  exact Within.of_same (by intro p hp; cases p <;> simp_all [Part.same]) rfl


theorem State.refuseNow_within (s : State) (kind : Nat) (tag : Nat) (reason : Reason) :
    Within [.requests] s (s.refuseNow kind tag reason) := by
  unfold State.refuseNow
  try dsimp only
  repeat' split
  all_goals (repeat (first
    | with_reducible exact Within.refl _ _
    | with_reducible refine (State.formReply_within _ _).then (by decide) ?_
    | exact Within.of_same (by intro p hp; cases p <;> simp_all [Part.same]) (by simp)
    | split))

theorem State.completeRunning_within (s : State) (reason : Reason) (content : List Word) :
    Within [.requests] s (s.completeRunning reason content) := by
  unfold State.completeRunning
  try dsimp only
  repeat' split
  all_goals (repeat (first
    | with_reducible exact Within.refl _ _
    | exact Within.of_same (by intro p hp; cases p <;> simp_all [Part.same]) (by simp)
    | split))

theorem State.reportChannel_within (s : State) (c : Nat) (old : ChannelState) (new : ChannelState) (cause : ChannelCause) :
    Within [.reports] s (s.reportChannel c old new cause) := by
  unfold State.reportChannel
  try dsimp only
  repeat' split
  all_goals (repeat (first
    | with_reducible exact Within.refl _ _
    | with_reducible refine (State.report_within _ _).then (by decide) ?_
    | split))

theorem State.noteChannel_within (s : State) (c : Nat) (old : ChannelState) (cause : ChannelCause) :
    Within [.reports] s (s.noteChannel c old cause) := by
  unfold State.noteChannel
  try dsimp only
  repeat' split
  all_goals (repeat (first
    | with_reducible exact Within.refl _ _
    | with_reducible refine (State.reportChannel_within _ _ _ _ _).then (by decide) ?_
    | split))

theorem State.imageUnanswered_within (s : State) (site : Nat) (c : Nat) :
    Within [.images] s (s.imageUnanswered site c) := by
  unfold State.imageUnanswered
  try dsimp only
  repeat' split
  all_goals (repeat (first
    | with_reducible exact Within.refl _ _
    | with_reducible refine (State.setImage_within _ _ _).then (by decide) ?_
    | split))

theorem State.tellDropped_within (s : State) (c : Nat) (f : TxFrame) :
    Within [.images, .links] s (s.tellDropped c f) := by
  unfold State.tellDropped
  try dsimp only
  repeat' split
  all_goals (repeat (first
    | with_reducible exact Within.refl _ _
    | with_reducible refine (State.setLink_within _ _ _ _).then (by decide) ?_
    | with_reducible refine (State.imageUnanswered_within _ _ _).then (by decide) ?_
    | split))

theorem State.startTx_within (s : State) (c : Nat) :
    Within [.channels] s (s.startTx c) := by
  unfold State.startTx
  try dsimp only
  repeat' split
  all_goals (repeat (first
    | with_reducible exact Within.refl _ _
    | with_reducible refine (State.setChannel_within _ _ _).then (by decide) ?_
    | split))

theorem State.admitFrame_within (s : State) (c : Nat) (f : TxFrame) :
    Within [.channels, .links] s (s.admitFrame c f) := by
  unfold State.admitFrame
  try dsimp only
  repeat' split
  all_goals (repeat (first
    | with_reducible exact Within.refl _ _
    | with_reducible refine (State.setChannel_within _ _ _).then (by decide) ?_
    | with_reducible refine (State.setLink_within _ _ _ _).then (by decide) ?_
    | with_reducible refine (State.startTx_within _ _).then (by decide) ?_
    | split))

theorem State.offer_within (s : State) (c : Nat) (f : TxFrame) :
    Within [.images, .channels, .links] s (s.offer c f).2 := by
  unfold State.offer
  dsimp only
  repeat' split
  all_goals (repeat (first
    | with_reducible exact Within.refl _ _
    | with_reducible refine (State.admitFrame_within _ _ _).then (by decide) ?_
    | with_reducible refine (State.tellDropped_within _ _ _).then (by decide) ?_
    | with_reducible refine (State.setChannel_within _ _ _).then (by decide) ?_
    | split))

theorem State.offer_within' {s t : State} {c : Nat} {f : TxFrame} {b : Bool}
    (h : s.offer c f = (b, t)) : Within [.images, .channels, .links] s t := by
  have := s.offer_within c f
  rwa [h] at this


theorem State.withdrawFrames_within (s : State) (serial : Nat) :
    Within [.channels] s (s.withdrawFrames serial) := by
  unfold State.withdrawFrames
  try dsimp only
  repeat' split
  all_goals (repeat (first
    | with_reducible exact Within.refl _ _
    | exact Within.of_same (by intro p hp; cases p <;> simp_all [Part.same]) (by simp)
    | split))

theorem State.setRoute_within (s : State) (site : Nat) (r : Route) (cause : RouteCause) :
    Within [.sites, .reports] s (s.setRoute site r cause) := by
  unfold State.setRoute
  try dsimp only
  repeat' split
  all_goals (repeat (first
    | with_reducible exact Within.refl _ _
    | with_reducible refine (State.setSite_within _ _ _).then (by decide) ?_
    | with_reducible refine (State.report_within _ _).then (by decide) ?_
    | split))

theorem State.judgeRoute_within (s : State) (site : Nat) (commit : Bool) :
    Within [.sites, .reports] s (s.judgeRoute site commit) := by
  unfold State.judgeRoute
  try dsimp only
  repeat' split
  all_goals (repeat (first
    | with_reducible exact Within.refl _ _
    | with_reducible refine (State.setRoute_within _ _ _ _).then (by decide) ?_
    | with_reducible refine (State.setSite_within _ _ _).then (by decide) ?_
    | split))

theorem State.refreshReach_within (s : State) (c : Nat) (site : Nat) :
    Within [.sites, .reports, .messages] s (s.refreshReach c site) := by
  unfold State.refreshReach
  try dsimp only
  repeat' split
  all_goals (repeat (first
    | with_reducible exact Within.refl _ _
    | with_reducible refine (State.setSite_within _ _ _).then (by decide) ?_
    | with_reducible refine (State.sendAll_within _ _).then (by decide) ?_
    | with_reducible refine (State.report_within _ _).then (by decide) ?_
    | split))

theorem State.reachChanged_within (s : State) (c : Nat) (site : Nat) :
    Within [.sites, .reports, .messages] s (s.reachChanged c site) := by
  unfold State.reachChanged
  try dsimp only
  repeat' split
  all_goals (repeat (first
    | with_reducible exact Within.refl _ _
    | with_reducible refine (State.judgeRoute_within _ _ _).then (by decide) ?_
    | with_reducible refine (State.refreshReach_within _ _ _).then (by decide) ?_
    | split))

theorem State.followChannel_within (s : State) (c : Nat) :
    Within [.sites, .reports, .messages] s (s.followChannel c) := by
  unfold State.followChannel
  try dsimp only
  repeat' split
  all_goals (repeat (first
    | with_reducible exact Within.refl _ _
    | with_reducible refine (State.reachChanged_within _ _ _).then (by decide) ?_
    | with_reducible refine (Within.foldl (fun _ _ => State.reachChanged_within _ _ _) _ _).then (by decide) ?_
    | split))

theorem State.judgeRoutes_within (s : State) (c : Nat) :
    Within [.sites, .reports] s (s.judgeRoutes c) := by
  unfold State.judgeRoutes
  try dsimp only
  repeat' split
  all_goals (repeat (first
    | with_reducible exact Within.refl _ _
    | with_reducible refine (State.judgeRoute_within _ _ _).then (by decide) ?_
    | with_reducible refine (Within.foldl (fun _ _ => State.judgeRoute_within _ _ _) _ _).then (by decide) ?_
    | split))

theorem State.clearLinks_within (s : State) (c : Nat) :
    Within [.channels, .links] s (s.clearLinks c) := by
  unfold State.clearLinks
  try dsimp only
  repeat' split
  all_goals (repeat (first
    | with_reducible exact Within.refl _ _
    | with_reducible refine (State.setChannel_within _ _ _).then (by decide) ?_
    | exact Within.of_same (by intro p hp; cases p <;> simp_all [Part.same]) (by simp)
    | split))

theorem State.clearQueue_within (s : State) (c : Nat) (cause : LossCause) :
    Within [.images, .channels, .links, .messages] s (s.clearQueue c cause) := by
  unfold State.clearQueue
  try dsimp only
  repeat' split
  all_goals (repeat (first
    | with_reducible exact Within.refl _ _
    | with_reducible refine (State.setChannel_within _ _ _).then (by decide) ?_
    | with_reducible refine (State.tellDropped_within _ _ _).then (by decide) ?_
    | with_reducible refine (State.send_within _ _).then (by decide) ?_
    | with_reducible refine (Within.foldl (fun _ _ => State.tellDropped_within _ _ _) _ _).then (by decide) ?_
    | split))

theorem State.clearChannel_within (s : State) (c : Nat) (cause : LossCause) :
    Within [.images, .channels, .links, .messages] s (s.clearChannel c cause) := by
  unfold State.clearChannel
  try dsimp only
  repeat' split
  all_goals (repeat (first
    | with_reducible exact Within.refl _ _
    | with_reducible refine (State.clearLinks_within _ _).then (by decide) ?_
    | with_reducible refine (State.clearQueue_within _ _ _).then (by decide) ?_
    | with_reducible refine (State.setChannel_within _ _ _).then (by decide) ?_
    | split))

theorem State.enterAcquiring_within (s : State) (c : Nat) :
    Within [.channels] s (s.enterAcquiring c) := by
  unfold State.enterAcquiring
  try dsimp only
  repeat' split
  all_goals (repeat (first
    | with_reducible exact Within.refl _ _
    | with_reducible refine (State.setChannel_within _ _ _).then (by decide) ?_
    | split))

theorem State.judgeChannel_within (s : State) (c : Nat) :
    Within [.channels, .sites, .reports] s (s.judgeChannel c) := by
  unfold State.judgeChannel
  try dsimp only
  repeat' split
  all_goals (repeat (first
    | with_reducible exact Within.refl _ _
    | with_reducible refine (State.judgeRoutes_within _ _).then (by decide) ?_
    | with_reducible refine (State.reportChannel_within _ _ _ _ _).then (by decide) ?_
    | with_reducible refine (State.setChannel_within _ _ _).then (by decide) ?_
    | split))

theorem State.heard_within (s : State) (c : Nat) :
    Within [.channels, .sites, .links, .reports] s (s.heard c) := by
  unfold State.heard
  try dsimp only
  repeat' split
  all_goals (repeat (first
    | with_reducible exact Within.refl _ _
    | with_reducible refine (State.setChannel_within _ _ _).then (by decide) ?_
    | with_reducible refine (State.judgeRoutes_within _ _).then (by decide) ?_
    | with_reducible refine (State.reportChannel_within _ _ _ _ _).then (by decide) ?_
    | exact Within.of_same (by intro p hp; cases p <;> simp_all [Part.same]) (by simp)
    | split))

theorem State.recordOutcomes_within (s : State) (c : Nat) (outcomes : List Bool) :
    Within [.channels, .sites, .links, .reports] s (s.recordOutcomes c outcomes) := by
  unfold State.recordOutcomes
  try dsimp only
  repeat' split
  all_goals (repeat (first
    | with_reducible exact Within.refl _ _
    | with_reducible refine (State.heard_within _ _).then (by decide) ?_
    | with_reducible refine (State.judgeChannel_within _ _).then (by decide) ?_
    | with_reducible refine (State.setChannel_within _ _ _).then (by decide) ?_
    | split))

theorem State.endProbe_within (s : State) (c : Nat) (result : ProbeResult) (time : Word) (corrected : Bool) :
    Within [.channels, .requests] s (s.endProbe c result time corrected) := by
  unfold State.endProbe
  try dsimp only
  repeat' split
  all_goals (repeat (first
    | with_reducible exact Within.refl _ _
    | with_reducible refine (State.completeRunning_within _ _ _).then (by decide) ?_
    | with_reducible refine (State.setChannel_within _ _ _).then (by decide) ?_
    | split))

theorem State.abortProbe_within (s : State) (c : Nat) :
    Within [.channels, .requests] s (s.abortProbe c) := by
  unfold State.abortProbe
  try dsimp only
  repeat' split
  all_goals (repeat (first
    | with_reducible exact Within.refl _ _
    | with_reducible refine (State.endProbe_within _ _ _ _ _).then (by decide) ?_
    | split))

theorem State.probeReturn_within (s : State) (c : Nat) (h : Header) (ws : List Word) (pass : Bool) :
    Within [.channels, .requests] s (s.probeReturn c h ws pass) := by
  unfold State.probeReturn
  try dsimp only
  repeat' split
  all_goals (repeat (first
    | with_reducible exact Within.refl _ _
    | with_reducible refine (State.endProbe_within _ _ _ _ _).then (by decide) ?_
    | split))

theorem State.resetWorking_within (s : State) (c : Nat) :
    Within [.images, .channels, .links, .requests, .messages] s (s.resetWorking c) := by
  unfold State.resetWorking
  try dsimp only
  repeat' split
  all_goals (repeat (first
    | with_reducible exact Within.refl _ _
    | with_reducible refine (State.clearChannel_within _ _ _).then (by decide) ?_
    | with_reducible refine (State.abortProbe_within _ _).then (by decide) ?_
    | with_reducible refine (State.setChannel_within _ _ _).then (by decide) ?_
    | split))

theorem State.sendCover_within (s : State) (sch : Nat) (m : Msg) :
    Within [.messages] s (s.sendCover sch m) := by
  unfold State.sendCover
  split
  · exact Within.refl _ _
  · exact State.send_within _ _

theorem State.startNext_within (s : State) :
    Within [.engineWork, .messages] s (s.startNext) := by
  unfold State.startNext
  try dsimp only
  repeat' split
  all_goals (repeat (first
    | with_reducible exact Within.refl _ _
    | with_reducible refine (State.sendCover_within _ _ _).then (by decide) ?_
    | with_reducible refine (State.setEngine_within _ _).then (by decide) ?_
    | exact Within.of_same (by intro p hp; cases p <;> simp_all [Part.same]) (by simp)
    | split))

theorem State.queueScan_within (s : State) (k : PlanKind) (sch : Nat) :
    Within [.engineWork, .messages] s (s.queueScan k sch) := by
  unfold State.queueScan
  try dsimp only
  repeat' split
  all_goals (repeat (first
    | with_reducible exact Within.refl _ _
    | with_reducible refine (State.setEngine_within _ _).then (by decide) ?_
    | with_reducible refine (State.startNext_within _).then (by decide) ?_
    | exact Within.of_same (by intro p hp; cases p <;> simp_all [Part.same]) (by simp)
    | split))

theorem State.noteShadow_within (s : State) :
    Within [.messages] s (s.noteShadow) := by
  unfold State.noteShadow
  try dsimp only
  repeat' split
  all_goals (repeat (first
    | with_reducible exact Within.refl _ _
    | with_reducible refine (State.send_within _ _).then (by decide) ?_
    | split))

theorem State.reportImage_within (s : State) (site : Nat) (reason : Nat) :
    Within [.reports] s (s.reportImage site reason) := by
  unfold State.reportImage
  try dsimp only
  repeat' split
  all_goals (repeat (first
    | with_reducible exact Within.refl _ _
    | with_reducible refine (State.report_within _ _).then (by decide) ?_
    | split))

theorem State.sendImage_within (s : State) (site : Nat) (n : Nat) :
    Within [.images, .channels, .links] s (s.sendImage site n) := by
  unfold State.sendImage
  dsimp only
  repeat' split
  all_goals (repeat (first
    | with_reducible exact Within.refl _ _
    | with_reducible refine (State.imageUnanswered_within _ _ _).then (by decide) ?_
    | with_reducible refine (State.setImage_within _ _ _).then (by decide) ?_
    | (rename_i h; refine (State.offer_within' h).then (by decide) ?_)))


theorem State.sendNewImage_within (s : State) (site : Nat) (codes : List Nat) :
    Within [.images, .channels, .links, .reports] s (s.sendNewImage site codes) := by
  unfold State.sendNewImage
  try dsimp only
  repeat' split
  all_goals (repeat (first
    | with_reducible exact Within.refl _ _
    | with_reducible refine (State.setImage_within _ _ _).then (by decide) ?_
    | with_reducible refine (State.sendImage_within _ _ _).then (by decide) ?_
    | with_reducible refine (State.reportImage_within _ _ _).then (by decide) ?_
    | split))

theorem State.refreshImage_within (s : State) (site : Nat) :
    Within [.images, .channels, .links, .reports] s (s.refreshImage site) := by
  unfold State.refreshImage
  try dsimp only
  repeat' split
  all_goals (repeat (first
    | with_reducible exact Within.refl _ _
    | with_reducible refine (State.sendNewImage_within _ _ _).then (by decide) ?_
    | split))

theorem State.refreshImages_within (s : State) :
    Within [.images, .channels, .links, .reports] s (s.refreshImages) := by
  unfold State.refreshImages
  try dsimp only
  repeat' split
  all_goals (repeat (first
    | with_reducible exact Within.refl _ _
    | with_reducible refine (State.refreshImage_within _ _).then (by decide) ?_
    | with_reducible refine (Within.foldl (fun _ _ => State.refreshImage_within _ _) _ _).then (by decide) ?_
    | split))

theorem State.reportSelection_within (s : State) (sch : Nat) (x : Selection) :
    Within [.reports] s (s.reportSelection sch x) := by
  unfold State.reportSelection
  try dsimp only
  repeat' split
  all_goals (repeat (first
    | with_reducible exact Within.refl _ _
    | with_reducible refine (State.report_within _ _).then (by decide) ?_
    | split))

theorem State.publish_within (s : State) (sch : Nat) (x : Selection) :
    Within [.selections, .images, .channels, .links, .reports] s (s.publish sch x) := by
  unfold State.publish
  try dsimp only
  repeat' split
  all_goals (repeat (first
    | with_reducible exact Within.refl _ _
    | with_reducible refine (State.setEngine_within _ _).then (by decide) ?_
    | with_reducible refine (State.reportSelection_within _ _ _).then (by decide) ?_
    | with_reducible refine (State.refreshImages_within _).then (by decide) ?_
    | exact Within.of_same (by intro p hp; cases p <;> simp_all [Part.same]) (by simp)
    | split))

theorem State.finishPlan_within (s : State) (p : PlanScan) (t : Termination) :
    Within [.preparation, .engineWork, .selections, .images, .channels, .links, .reports, .messages] s (s.finishPlan p t) := by
  unfold State.finishPlan
  try dsimp only
  repeat' split
  all_goals (repeat (first
    | with_reducible exact Within.refl _ _
    | with_reducible refine (State.setEngine_within _ _).then (by decide) ?_
    | with_reducible refine (State.startNext_within _).then (by decide) ?_
    | with_reducible refine (State.publish_within _ _ _).then (by decide) ?_
    | with_reducible refine (State.noteShadow_within _).then (by decide) ?_
    | exact Within.of_same (by intro p hp; cases p <;> simp_all [Part.same]) (by simp)
    | split))

theorem State.finishCover_within (s : State) (c : CoverScan) :
    Within [.engineWork, .messages] s (s.finishCover c) := by
  unfold State.finishCover
  try dsimp only
  repeat' split
  all_goals (repeat (first
    | with_reducible exact Within.refl _ _
    | with_reducible refine (State.startNext_within _).then (by decide) ?_
    | with_reducible refine (State.sendCover_within _ _ _).then (by decide) ?_
    | with_reducible refine (State.setEngine_within _ _).then (by decide) ?_
    | exact Within.of_same (by intro p hp; cases p <;> simp_all [Part.same]) (by simp)
    | split))

theorem State.refreshStaged_within (s : State) :
    Within [.preparation, .messages] s (s.refreshStaged) := by
  unfold State.refreshStaged
  try dsimp only
  repeat' split
  all_goals (repeat (first
    | with_reducible exact Within.refl _ _
    | with_reducible refine (State.sendAll_within _ _).then (by decide) ?_
    | exact Within.of_same (by intro p hp; cases p <;> simp_all [Part.same]) (by simp)
    | split))

theorem State.dropShadow_within (s : State) (sch : Nat) :
    Within [.preparation, .engineWork, .messages] s (s.dropShadow sch) := by
  unfold State.dropShadow
  try dsimp only
  repeat' split
  all_goals (repeat (first
    | with_reducible exact Within.refl _ _
    | with_reducible refine (State.setEngine_within _ _).then (by decide) ?_
    | with_reducible refine (State.noteShadow_within _).then (by decide) ?_
    | with_reducible refine (State.startNext_within _).then (by decide) ?_
    | with_reducible refine (State.withdraw_within _ _).then (by decide) ?_
    | exact Within.of_same (by intro p hp; cases p <;> simp_all [Part.same]) (by simp)
    | split))

theorem State.setPrepared_within (s : State) (sch : Nat) (evaluated : Bool) (r : Option EvalRec)
    (outcome : Reported) :
    Within [.preparation, .engineWork, .messages] s (s.setPrepared sch evaluated r outcome) := by
  unfold State.setPrepared
  try dsimp only
  repeat' split
  all_goals (repeat (first
    | with_reducible exact Within.refl _ _
    | with_reducible refine (State.queueScan_within _ _ _).then (by decide) ?_
    | with_reducible refine (State.send_within _ _).then (by decide) ?_
    | with_reducible refine (State.dropShadow_within _ _).then (by decide) ?_
    | exact Within.of_same (by intro p hp; cases p <;> simp_all [Part.same]) (by simp)
    | split))

theorem State.prepareScheme_within (renew : Bool) (s : State) (sch : Nat) :
    Within [.preparation, .engineWork, .messages] s (s.prepareScheme renew sch) := by
  unfold State.prepareScheme
  try dsimp only
  repeat' split
  all_goals (repeat (first
    | with_reducible exact Within.refl _ _
    | with_reducible refine (State.setPrepared_within _ _ _ _ _).then (by decide) ?_
    | split))

theorem State.refreshCarry_within (s : State) (sch : Nat) :
    Within [.preparation, .engineWork, .messages] s (s.refreshCarry sch) := by
  unfold State.refreshCarry
  try dsimp only
  repeat' split
  all_goals (repeat (first
    | with_reducible exact Within.refl _ _
    | with_reducible refine (State.prepareScheme_within _ _ _).then (by decide) ?_
    | split))

theorem State.refreshPreparation_within (s : State) :
    Within [.preparation, .engineWork, .messages] s (s.refreshPreparation) := by
  unfold State.refreshPreparation
  try dsimp only
  repeat' split
  all_goals (repeat (first
    | with_reducible exact Within.refl _ _
    | with_reducible refine (State.refreshStaged_within _).then (by decide) ?_
    | with_reducible refine (State.prepareScheme_within _ _ _).then (by decide) ?_
    | with_reducible refine (Within.foldl (fun _ _ => State.prepareScheme_within _ _ _) _ _).then (by decide) ?_
    | exact Within.of_same (by intro p hp; cases p <;> simp_all [Part.same]) (by simp)
    | split))

theorem State.startPreparation_within (s : State) :
    Within [.switch, .preparation, .engineWork, .messages] s (s.startPreparation) := by
  unfold State.startPreparation
  try dsimp only
  repeat' split
  all_goals (repeat (first
    | with_reducible exact Within.refl _ _
    | with_reducible refine (State.noteShadow_within _).then (by decide) ?_
    | with_reducible refine (State.prepareScheme_within _ _ _).then (by decide) ?_
    | with_reducible refine (Within.foldl (fun _ _ => State.prepareScheme_within _ _ _) _ _).then (by decide) ?_
    | exact Within.of_same (by intro p hp; cases p <;> simp_all [Part.same]) (by simp)
    | split))

theorem State.endPreparation_within (s : State) (next : SwitchState) :
    Within [.switch, .preparation, .engineWork, .messages] s (s.endPreparation next) := by
  unfold State.endPreparation
  try dsimp only
  repeat' split
  all_goals (repeat (first
    | with_reducible exact Within.refl _ _
    | with_reducible refine (State.startNext_within _).then (by decide) ?_
    | with_reducible refine (State.withdraw_within _ _).then (by decide) ?_
    | exact Within.of_same (by intro p hp; cases p <;> simp_all [Part.same]) (by simp)
    | split))

theorem State.judgeQuiescence_within (s : State) :
    Within [.switch, .preparation, .engineWork, .messages] s (s.judgeQuiescence) := by
  unfold State.judgeQuiescence
  try dsimp only
  repeat' split
  all_goals (repeat (first
    | with_reducible exact Within.refl _ _
    | with_reducible refine (State.startPreparation_within _).then (by decide) ?_
    | split))

theorem State.reportBank_within (s : State) (event : Nat) (w0 : Word) (w1 : Word) (w2 : Word) (w3 : Word) :
    Within [.reports] s (s.reportBank event w0 w1 w2 w3) := by
  unfold State.reportBank
  try dsimp only
  repeat' split
  all_goals (repeat (first
    | with_reducible exact Within.refl _ _
    | with_reducible refine (State.report_within _ _).then (by decide) ?_
    | split))

theorem stageOpenRule_within (ws : List Word) (s : State) :
    Within [.stagedBank] s (stageOpenRule ws s).state := by
  unfold stageOpenRule
  try dsimp only [Answer.refuse, Answer.done]
  repeat' split
  all_goals (repeat (first
    | with_reducible exact Within.refl _ _
    | with_reducible refine (State.mapStaged_within _ _).then (by decide) ?_
    | split))

theorem stageWriteDone_within (c : RecordClass) (index : Nat) (isDefined : Bool) (s : State) :
    Within [] s (stageWriteDone c index isDefined s).state := by
  unfold stageWriteDone
  try dsimp only [Answer.refuse, Answer.done]
  repeat' split
  all_goals (repeat (first
    | with_reducible exact Within.refl _ _
    | split))

theorem stageWriteRule_within (ws : List Word) (s : State) :
    Within [.stagedBank] s (stageWriteRule ws s).state := by
  unfold stageWriteRule
  try dsimp only [Answer.refuse, Answer.done]
  repeat' split
  all_goals (repeat (first
    | with_reducible exact Within.refl _ _
    | with_reducible refine (stageWriteDone_within _ _ _ _).then (by decide) ?_
    | with_reducible refine (State.mapStaged_within _ _).then (by decide) ?_
    | split))

theorem stageSealRule_within (y0 : List Word) (s : State) :
    Within [.stagedBank, .reports] s (stageSealRule y0 s).state := by
  unfold stageSealRule
  try dsimp only [Answer.refuse, Answer.done]
  repeat' split
  all_goals (repeat (first
    | with_reducible exact Within.refl _ _
    | with_reducible refine (State.mapStaged_within _ _).then (by decide) ?_
    | with_reducible refine (State.reportBank_within _ _ _ _ _ _).then (by decide) ?_
    | split))

theorem bankReadRule_within (ws : List Word) (s : State) :
    Within [] s (bankReadRule ws s).state := by
  unfold bankReadRule
  try dsimp only [Answer.refuse, Answer.done]
  repeat' split
  all_goals (repeat (first
    | with_reducible exact Within.refl _ _
    | split))

theorem bankSwitchRule_within (y0 : List Word) (s : State) :
    Within [.switch, .preparation, .engineWork, .messages] s (bankSwitchRule y0 s).state := by
  unfold bankSwitchRule
  try dsimp only [Answer.refuse, Answer.done]
  repeat' split
  all_goals (repeat (first
    | with_reducible exact Within.refl _ _
    | with_reducible refine (State.judgeQuiescence_within _).then (by decide) ?_
    | exact Within.of_same (by intro p hp; cases p <;> simp_all [Part.same]) (by simp)
    | split))

theorem State.cancelSwitch_within (s : State) (cause : Nat) :
    Within [.switch, .preparation, .engineWork, .reports, .messages] s (s.cancelSwitch cause) := by
  unfold State.cancelSwitch
  dsimp only
  refine (State.reportBank_within _ _ _ _ _ _).then (by decide) ?_
  refine Within.trans (t := s.endPreparation .idle) ?_ (Within.of_same (by intro p hp; cases p <;> simp_all [Part.same]) (by simp))
  exact (State.endPreparation_within _ _).then (by decide) (Within.refl _ _)


theorem bankCancelRule_within (y0 : List Word) (s : State) :
    Within [.switch, .preparation, .engineWork, .reports, .messages] s (bankCancelRule y0 s).state := by
  unfold bankCancelRule
  try dsimp only [Answer.refuse, Answer.done]
  repeat' split
  all_goals (repeat (first
    | with_reducible exact Within.refl _ _
    | with_reducible refine (State.cancelSwitch_within _ _).then (by decide) ?_
    | split))

theorem State.abortPreparation_within (s : State) (k : Nat) :
    Within [.switch, .preparation, .engineWork, .reports, .messages] s (s.abortPreparation k) := by
  unfold State.abortPreparation
  try dsimp only
  repeat' split
  all_goals (repeat (first
    | with_reducible exact Within.refl _ _
    | with_reducible refine (State.reportBank_within _ _ _ _ _ _).then (by decide) ?_
    | with_reducible refine (State.endPreparation_within _ _).then (by decide) ?_
    | split))

theorem channelDone_within (c : Nat) (s : State) :
    Within [] s (channelDone c s).state := by
  unfold channelDone
  try dsimp only [Answer.refuse, Answer.done]
  repeat' split
  all_goals (repeat (first
    | with_reducible exact Within.refl _ _
    | split))

theorem State.bringUp_within (s : State) (c : Nat) (cause : ChannelCause) :
    Within [.channels, .sites, .reports, .messages] s (s.bringUp c cause) := by
  unfold State.bringUp
  try dsimp only
  repeat' split
  all_goals (repeat (first
    | with_reducible exact Within.refl _ _
    | with_reducible refine (State.followChannel_within _ _).then (by decide) ?_
    | with_reducible refine (State.noteChannel_within _ _ _ _).then (by decide) ?_
    | with_reducible refine (State.enterAcquiring_within _ _).then (by decide) ?_
    | split))

theorem enableControl_within (c : Nat) (s : State) :
    Within [.channels, .sites, .reports, .messages] s (enableControl c s).state := by
  unfold enableControl
  try dsimp only [Answer.refuse, Answer.done]
  repeat' split
  all_goals (repeat (first
    | with_reducible exact Within.refl _ _
    | with_reducible refine (channelDone_within _ _).then (by decide) ?_
    | with_reducible refine (State.bringUp_within _ _ _).then (by decide) ?_
    | split))

theorem State.takeOut_within (s : State) (c : Nat) (new : ChannelState) (cause : LossCause) :
    Within [.images, .channels, .sites, .links, .reports, .messages] s (s.takeOut c new cause) := by
  unfold State.takeOut
  try dsimp only
  repeat' split
  all_goals (repeat (first
    | with_reducible exact Within.refl _ _
    | with_reducible refine (State.clearChannel_within _ _ _).then (by decide) ?_
    | with_reducible refine (State.setChannel_within _ _ _).then (by decide) ?_
    | with_reducible refine (State.followChannel_within _ _).then (by decide) ?_
    | with_reducible refine (State.noteChannel_within _ _ _ _).then (by decide) ?_
    | split))

theorem disableControl_within (c : Nat) (s : State) :
    Within [.images, .channels, .sites, .links, .reports, .messages] s (disableControl c s).state := by
  unfold disableControl
  try dsimp only [Answer.refuse, Answer.done]
  repeat' split
  all_goals (repeat (first
    | with_reducible exact Within.refl _ _
    | with_reducible refine (channelDone_within _ _).then (by decide) ?_
    | with_reducible refine (State.takeOut_within _ _ _ _).then (by decide) ?_
    | split))

theorem State.huntAgain_within (s : State) (c : Nat) :
    Within [.channels] s (s.huntAgain c) := by
  unfold State.huntAgain
  try dsimp only
  repeat' split
  all_goals (repeat (first
    | with_reducible exact Within.refl _ _
    | with_reducible refine (State.setChannel_within _ _ _).then (by decide) ?_
    | split))

theorem loopbackControl_within (c : Nat) (s : State) :
    Within [.images, .channels, .sites, .links, .reports, .messages] s (loopbackControl c s).state := by
  unfold loopbackControl
  try dsimp only [Answer.refuse, Answer.done]
  repeat' split
  all_goals (repeat (first
    | with_reducible exact Within.refl _ _
    | with_reducible refine (channelDone_within _ _).then (by decide) ?_
    | with_reducible refine (State.huntAgain_within _ _).then (by decide) ?_
    | with_reducible refine (State.takeOut_within _ _ _ _).then (by decide) ?_
    | split))

theorem normalControl_within (c : Nat) (s : State) :
    Within [.channels, .sites, .reports, .messages] s (normalControl c s).state := by
  unfold normalControl
  try dsimp only [Answer.refuse, Answer.done]
  repeat' split
  all_goals (repeat (first
    | with_reducible exact Within.refl _ _
    | with_reducible refine (channelDone_within _ _).then (by decide) ?_
    | with_reducible refine (State.bringUp_within _ _ _).then (by decide) ?_
    | split))

theorem State.hostReset_within (s : State) (c : Nat) :
    Within [.images, .channels, .sites, .links, .requests, .reports, .messages] s (s.hostReset c) := by
  unfold State.hostReset
  try dsimp only
  repeat' split
  all_goals (repeat (first
    | with_reducible exact Within.refl _ _
    | with_reducible refine (State.resetWorking_within _ _).then (by decide) ?_
    | with_reducible refine (State.followChannel_within _ _).then (by decide) ?_
    | with_reducible refine (State.reportChannel_within _ _ _ _ _).then (by decide) ?_
    | with_reducible refine (State.enterAcquiring_within _ _).then (by decide) ?_
    | split))

theorem resetControl_within (c : Nat) (s : State) :
    Within [.images, .channels, .sites, .links, .requests, .reports, .messages] s (resetControl c s).state := by
  unfold resetControl
  try dsimp only [Answer.refuse, Answer.done]
  repeat' split
  all_goals (repeat (first
    | with_reducible exact Within.refl _ _
    | with_reducible refine (channelDone_within _ _).then (by decide) ?_
    | with_reducible refine (State.hostReset_within _ _).then (by decide) ?_
    | split))

theorem State.startProbe_within (s : State) (c : Nat) (words : List Word) :
    Within [.images, .channels, .links, .requests] s (s.startProbe c words) := by
  unfold State.startProbe
  dsimp only
  refine (State.hold_within _).then (by decide) ?_
  refine (State.offer_within _ _ _).then (by decide) ?_
  exact (State.setChannel_within _ _ _).then (by decide) (Within.refl _ _)


theorem State.overrun_within (s : State) (c : Nat) (h : Header) :
    Within [.channels, .sites, .links, .reports] s (s.overrun c h) := by
  unfold State.overrun
  try dsimp only
  repeat' split
  all_goals (repeat (first
    | with_reducible exact Within.refl _ _
    | with_reducible refine (State.report_within _ _).then (by decide) ?_
    | with_reducible refine (State.recordOutcomes_within _ _ _).then (by decide) ?_
    | split))

theorem State.takeFrame_within {s t : State} {c : Nat} {o : Owner} {f : RxFrame}
    (h : s.takeFrame c o = some (f, t)) : Within [.channels] s t := by
  unfold State.takeFrame at h
  dsimp only at h
  split at h
  · exact absurd h (by simp)
  · split at h
    · obtain ⟨rfl, rfl⟩ := Prod.mk.inj (Option.some.inj h)
      exact State.setChannel_within _ _ _
    · exact absurd h (by simp)


theorem State.tellSent_within (s : State) (c : Nat) (t : Sending) :
    Within [.images, .orders, .channels, .links] s (s.tellSent c t) := by
  unfold State.tellSent
  try dsimp only
  repeat' split
  all_goals (repeat (first
    | with_reducible exact Within.refl _ _
    | with_reducible refine (State.setLink_within _ _ _ _).then (by decide) ?_
    | with_reducible refine (State.mapOrders_within _ _).then (by decide) ?_
    | with_reducible refine (State.imageUnanswered_within _ _ _).then (by decide) ?_
    | with_reducible refine (State.setChannel_within _ _ _).then (by decide) ?_
    | split))

theorem State.alertRises_within (s : State) (c : Nat) :
    Within [.channels] s (s.alertRises c) := by
  unfold State.alertRises
  try dsimp only
  repeat' split
  all_goals (repeat (first
    | with_reducible exact Within.refl _ _
    | with_reducible refine (State.setChannel_within _ _ _).then (by decide) ?_
    | split))

theorem State.alertFalls_within (s : State) (c : Nat) :
    Within [.channels] s (s.alertFalls c) := by
  unfold State.alertFalls
  try dsimp only
  repeat' split
  all_goals (repeat (first
    | with_reducible exact Within.refl _ _
    | with_reducible refine (State.setChannel_within _ _ _).then (by decide) ?_
    | split))

theorem State.pointEvent_within (s : State) (new : PointStore) :
    Within [.preparation, .points, .engineWork, .reports, .messages] s (s.pointEvent new) := by
  unfold State.pointEvent
  try dsimp only
  repeat' split
  all_goals (repeat (first
    | with_reducible exact Within.refl _ _
    | with_reducible refine (State.report_within _ _).then (by decide) ?_
    | with_reducible refine (State.refreshPreparation_within _).then (by decide) ?_
    | with_reducible refine (State.sendAll_within _ _).then (by decide) ?_
    | with_reducible refine (Within.foldl (fun _ _ => State.report_within _ _) _ _).then (by decide) ?_
    | exact Within.of_same (by intro p hp; cases p <;> simp_all [Part.same]) (by simp)
    | split))

theorem State.staleAnalog_within (s : State) (a : Nat) :
    Within [.preparation, .points, .engineWork, .reports, .messages] s (s.staleAnalog a) := by
  unfold State.staleAnalog
  try dsimp only
  repeat' split
  all_goals (repeat (first
    | with_reducible exact Within.refl _ _
    | with_reducible refine (State.pointEvent_within _ _).then (by decide) ?_
    | split))

theorem State.staleStatus_within (s : State) (a : Nat) :
    Within [.preparation, .points, .engineWork, .reports, .messages] s (s.staleStatus a) := by
  unfold State.staleStatus
  try dsimp only
  repeat' split
  all_goals (repeat (first
    | with_reducible exact Within.refl _ _
    | with_reducible refine (State.pointEvent_within _ _).then (by decide) ?_
    | split))

theorem State.failAnalog_within (s : State) (a : Nat) :
    Within [.preparation, .points, .engineWork, .reports, .messages] s (s.failAnalog a) := by
  unfold State.failAnalog
  try dsimp only
  repeat' split
  all_goals (repeat (first
    | with_reducible exact Within.refl _ _
    | with_reducible refine (State.pointEvent_within _ _).then (by decide) ?_
    | split))

theorem State.failStatus_within (s : State) (a : Nat) :
    Within [.preparation, .points, .engineWork, .reports, .messages] s (s.failStatus a) := by
  unfold State.failStatus
  try dsimp only
  repeat' split
  all_goals (repeat (first
    | with_reducible exact Within.refl _ _
    | with_reducible refine (State.pointEvent_within _ _).then (by decide) ?_
    | split))

theorem State.expireTargets_within (s : State) (x : Samples) :
    Within [.preparation, .points, .engineWork, .reports, .messages] s (s.expireTargets x) := by
  unfold State.expireTargets
  dsimp only
  refine (Within.foldl (fun t x => ?_) _ _).trans (Within.foldl (fun t x => ?_) _ _)
  · exact (State.failAnalog_within _ _).then (by decide)
      ((State.staleAnalog_within _ _).then (by decide) (Within.refl _ _))
  · exact (State.failStatus_within _ _).then (by decide)
      ((State.staleStatus_within _ _).then (by decide) (Within.refl _ _))


theorem State.takeSamples_within (s : State) (x : Samples) :
    Within [.preparation, .points, .engineWork, .reports, .messages] s (s.takeSamples x) := by
  unfold State.takeSamples
  try dsimp only
  repeat' split
  all_goals (repeat (first
    | with_reducible exact Within.refl _ _
    | with_reducible refine (State.expireTargets_within _ _).then (by decide) ?_
    | with_reducible refine (State.pointEvent_within _ _).then (by decide) ?_
    | split))

theorem State.filterFrame_within (s : State) (site : Nat) (n : Byte) (x : Samples) :
    Within [.preparation, .points, .engineWork, .reports, .messages] s (s.filterFrame site n x) := by
  unfold State.filterFrame
  try dsimp only
  repeat' split
  all_goals (repeat (first
    | with_reducible exact Within.refl _ _
    | with_reducible refine (State.takeSamples_within _ _).then (by decide) ?_
    | exact Within.of_same (by intro p hp; cases p <;> simp_all [Part.same]) (by simp)
    | split))

theorem pointPutRule_within (ws : List Word) (s : State) :
    Within [.preparation, .points, .engineWork, .reports, .messages] s (pointPutRule ws s).state := by
  unfold pointPutRule
  try dsimp only [Answer.refuse, Answer.done]
  repeat' split
  all_goals (repeat (first
    | with_reducible exact Within.refl _ _
    | with_reducible refine (State.takeSamples_within _ _).then (by decide) ?_
    | split))

theorem pointDone_within (index : Nat) (s : State) :
    Within [] s (pointDone index s).state := by
  unfold pointDone
  try dsimp only [Answer.refuse, Answer.done]
  repeat' split
  all_goals (repeat (first
    | with_reducible exact Within.refl _ _
    | split))

theorem pointSubstRule_within (ws : List Word) (s : State) :
    Within [.preparation, .points, .engineWork, .reports, .messages] s (pointSubstRule ws s).state := by
  unfold pointSubstRule
  try dsimp only [Answer.refuse, Answer.done]
  repeat' split
  all_goals (repeat (first
    | with_reducible exact Within.refl _ _
    | with_reducible refine (pointDone_within _ _).then (by decide) ?_
    | with_reducible refine (State.pointEvent_within _ _).then (by decide) ?_
    | split))

theorem pointReleaseRule_within (ws : List Word) (s : State) :
    Within [.preparation, .points, .engineWork, .reports, .messages] s (pointReleaseRule ws s).state := by
  unfold pointReleaseRule
  try dsimp only [Answer.refuse, Answer.done]
  repeat' split
  all_goals (repeat (first
    | with_reducible exact Within.refl _ _
    | with_reducible refine (pointDone_within _ _).then (by decide) ?_
    | with_reducible refine (State.pointEvent_within _ _).then (by decide) ?_
    | split))

theorem State.reportArm_within (s : State) (i : Nat) (old : Reported) (x : Scheme) (cause : ArmCause) :
    Within [.reports] s (s.reportArm i old x cause) := by
  unfold State.reportArm
  try dsimp only
  repeat' split
  all_goals (repeat (first
    | with_reducible exact Within.refl _ _
    | with_reducible refine (State.report_within _ _).then (by decide) ?_
    | split))

theorem State.refreshAlert_within (s : State) :
    Within [.alert, .messages] s (s.refreshAlert) := by
  unfold State.refreshAlert
  try dsimp only
  repeat' split
  all_goals (repeat (first
    | with_reducible exact Within.refl _ _
    | with_reducible refine (State.sendAll_within _ _).then (by decide) ?_
    | exact Within.of_same (by intro p hp; cases p <;> simp_all [Part.same]) (by simp)
    | split))

theorem State.noteDeparture_within (s : State) (x : Scheme) (y : Scheme) :
    Within [.messages] s (s.noteDeparture x y) := by
  unfold State.noteDeparture
  try dsimp only
  repeat' split
  all_goals (repeat (first
    | with_reducible exact Within.refl _ _
    | with_reducible refine (State.send_within _ _).then (by decide) ?_
    | split))

theorem State.writeScheme_within (s : State) (i : Nat) (x : Scheme) (y : Scheme) (cause : ArmCause) :
    Within [.preparation, .schemes, .engineWork, .reports, .messages] s (s.writeScheme i x y cause) := by
  unfold State.writeScheme
  try dsimp only
  repeat' split
  all_goals (repeat (first
    | with_reducible exact Within.refl _ _
    | with_reducible refine (State.setScheme_within _ _ _).then (by decide) ?_
    | with_reducible refine (State.reportArm_within _ _ _ _ _).then (by decide) ?_
    | with_reducible refine (State.send_within _ _).then (by decide) ?_
    | with_reducible refine (State.noteDeparture_within _ _ _).then (by decide) ?_
    | with_reducible refine (State.refreshCarry_within _ _).then (by decide) ?_
    | split))

theorem State.changeScheme_within (s : State) (i : Nat) (x : Scheme) (y : Scheme) (cause : ArmCause) :
    Within [.preparation, .schemes, .alert, .engineWork, .reports, .messages] s (s.changeScheme i x y cause) := by
  unfold State.changeScheme
  try dsimp only
  repeat' split
  all_goals (repeat (first
    | with_reducible exact Within.refl _ _
    | with_reducible refine (State.refreshAlert_within _).then (by decide) ?_
    | with_reducible refine (State.writeScheme_within _ _ _ _ _).then (by decide) ?_
    | split))

theorem State.judgeFrom_within (s : State) (i : Nat) (d : SchemeDef) (x : Scheme) (base : Scheme) (release : Bool) (cause : Bool → ArmCause) :
    Within [.preparation, .schemes, .alert, .engineWork, .reports, .messages] s (s.judgeFrom i d x base release cause) := by
  unfold State.judgeFrom
  try dsimp only
  repeat' split
  all_goals (repeat (first
    | with_reducible exact Within.refl _ _
    | with_reducible refine (State.changeScheme_within _ _ _ _ _).then (by decide) ?_
    | with_reducible refine (State.send_within _ _).then (by decide) ?_
    | split))

theorem State.batchScheme_within (batch : List PointNotice) (s : State) (i : Nat) :
    Within [.preparation, .schemes, .alert, .engineWork, .reports, .messages] s (State.batchScheme batch s i) := by
  unfold State.batchScheme
  try dsimp only
  repeat' split
  all_goals (repeat (first
    | with_reducible exact Within.refl _ _
    | with_reducible refine (State.judgeFrom_within _ _ _ _ _ _ _).then (by decide) ?_
    | split))

theorem State.freeze_within (s : State) (i : Nat) (x : Scheme) :
    Within [.schemes, .messages] s (s.freeze i x) := by
  unfold State.freeze
  try dsimp only
  repeat' split
  all_goals (repeat (first
    | with_reducible exact Within.refl _ _
    | with_reducible refine (State.send_within _ _).then (by decide) ?_
    | with_reducible refine (State.setScheme_within _ _ _).then (by decide) ?_
    | split))

theorem State.release_within (s : State) (i : Nat) (d : SchemeDef) (x : Scheme) :
    Within [.preparation, .schemes, .alert, .engineWork, .reports, .messages] s (s.release i d x) := by
  unfold State.release
  try dsimp only
  repeat' split
  all_goals (repeat (first
    | with_reducible exact Within.refl _ _
    | with_reducible refine (State.send_within _ _).then (by decide) ?_
    | with_reducible refine (State.setScheme_within _ _ _).then (by decide) ?_
    | with_reducible refine (State.judgeFrom_within _ _ _ _ _ _ _).then (by decide) ?_
    | split))

theorem State.enterExecuting_within (s : State) (i : Nat) (x : Scheme) :
    Within [.preparation, .schemes, .alert, .engineWork, .reports, .messages] s (s.enterExecuting i x) := by
  unfold State.enterExecuting
  try dsimp only
  repeat' split
  all_goals (repeat (first
    | with_reducible exact Within.refl _ _
    | with_reducible refine (State.changeScheme_within _ _ _ _ _).then (by decide) ?_
    | split))

theorem schemeDone_within (i : Nat) (s : State) :
    Within [] s (schemeDone i s).state := by
  unfold schemeDone
  try dsimp only [Answer.refuse, Answer.done]
  repeat' split
  all_goals (repeat (first
    | with_reducible exact Within.refl _ _
    | split))

theorem schemeEnable_within (i : Nat) (d : SchemeDef) (x : Scheme) (s : State) :
    Within [.preparation, .schemes, .alert, .engineWork, .reports, .messages] s (schemeEnable i d x s).state := by
  unfold schemeEnable
  try dsimp only [Answer.refuse, Answer.done]
  repeat' split
  all_goals (repeat (first
    | with_reducible exact Within.refl _ _
    | with_reducible refine (schemeDone_within _ _).then (by decide) ?_
    | with_reducible refine (State.judgeFrom_within _ _ _ _ _ _ _).then (by decide) ?_
    | split))

theorem schemeDisable_within (i : Nat) (y10 : SchemeDef) (x : Scheme) (s : State) :
    Within [.preparation, .schemes, .alert, .engineWork, .reports, .messages] s (schemeDisable i y10 x s).state := by
  unfold schemeDisable
  try dsimp only [Answer.refuse, Answer.done]
  repeat' split
  all_goals (repeat (first
    | with_reducible exact Within.refl _ _
    | with_reducible refine (schemeDone_within _ _).then (by decide) ?_
    | with_reducible refine (State.changeScheme_within _ _ _ _ _).then (by decide) ?_
    | split))

theorem schemeBlock_within (v : Bool) (i : Nat) (y21 : SchemeDef) (x : Scheme) (s : State) :
    Within [.preparation, .schemes, .engineWork, .messages] s (schemeBlock v i y21 x s).state := by
  unfold schemeBlock
  try dsimp only [Answer.refuse, Answer.done]
  repeat' split
  all_goals (repeat (first
    | with_reducible exact Within.refl _ _
    | with_reducible refine (schemeDone_within _ _).then (by decide) ?_
    | with_reducible refine (State.refreshCarry_within _ _).then (by decide) ?_
    | with_reducible refine (State.setScheme_within _ _ _).then (by decide) ?_
    | split))

theorem schemeMode_within (m : Mode) (i : Nat) (y31 : SchemeDef) (x : Scheme) (s : State) :
    Within [.preparation, .schemes, .alert, .engineWork, .reports, .messages] s (schemeMode m i y31 x s).state := by
  unfold schemeMode
  try dsimp only [Answer.refuse, Answer.done]
  repeat' split
  all_goals (repeat (first
    | with_reducible exact Within.refl _ _
    | with_reducible refine (schemeDone_within _ _).then (by decide) ?_
    | with_reducible refine (State.changeScheme_within _ _ _ _ _).then (by decide) ?_
    | split))

theorem resetDone_within (i : Nat) (s : State) :
    Within [] s (resetDone i s).state := by
  unfold resetDone
  try dsimp only [Answer.refuse, Answer.done]
  repeat' split
  all_goals (repeat (first
    | with_reducible exact Within.refl _ _
    | split))

theorem schemeResetRule_within (ws : List Word) (s : State) :
    Within [.preparation, .schemes, .alert, .engineWork, .reports, .messages] s (schemeResetRule ws s).state := by
  unfold schemeResetRule
  try dsimp only [Answer.refuse, Answer.done]
  repeat' split
  all_goals (repeat (first
    | with_reducible exact Within.refl _ _
    | with_reducible refine (resetDone_within _ _).then (by decide) ?_
    | with_reducible refine (State.judgeFrom_within _ _ _ _ _ _ _).then (by decide) ?_
    | split))

theorem State.notePending_within (s : State) :
    Within [.messages] s (s.notePending) := by
  unfold State.notePending
  try dsimp only
  repeat' split
  all_goals (repeat (first
    | with_reducible exact Within.refl _ _
    | with_reducible refine (State.send_within _ _).then (by decide) ?_
    | split))

theorem State.noteQuiet_within (s : State) :
    Within [.messages] s (s.noteQuiet) := by
  unfold State.noteQuiet
  try dsimp only
  repeat' split
  all_goals (repeat (first
    | with_reducible exact Within.refl _ _
    | with_reducible refine (State.send_within _ _).then (by decide) ?_
    | split))

theorem State.enterPending_within (s : State) (k : Nat) (d : ContingencyDef) (x : Contingency) :
    Within [.contingencies, .messages] s (s.enterPending k d x) := by
  unfold State.enterPending
  try dsimp only
  repeat' split
  all_goals (repeat (first
    | with_reducible exact Within.refl _ _
    | with_reducible refine (State.sendAll_within _ _).then (by decide) ?_
    | with_reducible refine (State.setContingency_within _ _ _).then (by decide) ?_
    | with_reducible refine (State.send_within _ _).then (by decide) ?_
    | with_reducible refine (State.notePending_within _).then (by decide) ?_
    | split))

theorem State.applyEvidence_within (f : ContingencyDef → Evidence) (s : State) (k : Nat) :
    Within [.contingencies, .messages] s (State.applyEvidence f s k) := by
  unfold State.applyEvidence
  try dsimp only
  repeat' split
  all_goals (repeat (first
    | with_reducible exact Within.refl _ _
    | with_reducible refine (State.setContingency_within _ _ _).then (by decide) ?_
    | with_reducible refine (State.enterPending_within _ _ _ _).then (by decide) ?_
    | split))

theorem State.detect_within (s : State) (k : Nat) (x : Contingency) :
    Within [.contingencies, .reports, .messages] s (s.detect k x) := by
  unfold State.detect
  try dsimp only
  repeat' split
  all_goals (repeat (first
    | with_reducible exact Within.refl _ _
    | with_reducible refine (State.noteQuiet_within _).then (by decide) ?_
    | with_reducible refine (State.notePending_within _).then (by decide) ?_
    | with_reducible refine (State.setContingency_within _ _ _).then (by decide) ?_
    | with_reducible refine (State.sendAll_within _ _).then (by decide) ?_
    | with_reducible refine (State.report_within _ _).then (by decide) ?_
    | split))

theorem State.judgePending_within (before : State) (batch : List CheckMsg) (f : ContingencyDef → Evidence)
    (s : State) (k : Nat) :
    Within [.contingencies, .reports, .messages] s (before.judgePending batch f s k) := by
  unfold State.judgePending
  try dsimp only
  repeat' split
  all_goals (repeat (first
    | with_reducible exact Within.refl _ _
    | with_reducible refine (State.setContingency_within _ _ _).then (by decide) ?_
    | with_reducible refine (State.detect_within _ _ _).then (by decide) ?_
    | split))

theorem State.evidenceEvent_within (s : State) (batch : List CheckMsg) (f : ContingencyDef → Evidence) :
    Within [.contingencies, .reports, .messages] s (s.evidenceEvent batch f) := by
  unfold State.evidenceEvent
  try dsimp only
  repeat' split
  all_goals (repeat (first
    | with_reducible exact Within.refl _ _
    | with_reducible refine (State.applyEvidence_within _ _ _).then (by decide) ?_
    | with_reducible refine (State.judgePending_within _ _ _ _ _).then (by decide) ?_
    | with_reducible refine (Within.foldl (fun _ _ => State.applyEvidence_within _ _ _) _ _).then (by decide) ?_
    | with_reducible refine (Within.foldl (fun _ _ => State.judgePending_within _ _ _ _ _) _ _).then (by decide) ?_
    | split))

theorem State.judgeClearing_within (batch : List CheckMsg) (s : State) (k : Nat) :
    Within [.contingencies] s (State.judgeClearing batch s k) := by
  unfold State.judgeClearing
  try dsimp only
  repeat' split
  all_goals (repeat (first
    | with_reducible exact Within.refl _ _
    | with_reducible refine (State.setContingency_within _ _ _).then (by decide) ?_
    | split))

theorem State.expireWindow_within (s : State) (k : Nat) (x : Contingency) :
    Within [.contingencies, .reports, .messages] s (s.expireWindow k x) := by
  unfold State.expireWindow
  try dsimp only
  repeat' split
  all_goals (repeat (first
    | with_reducible exact Within.refl _ _
    | with_reducible refine (State.sendAll_within _ _).then (by decide) ?_
    | with_reducible refine (State.setContingency_within _ _ _).then (by decide) ?_
    | with_reducible refine (State.report_within _ _).then (by decide) ?_
    | with_reducible refine (State.noteQuiet_within _).then (by decide) ?_
    | with_reducible refine (State.notePending_within _).then (by decide) ?_
    | split))

theorem State.takeAnswer_within (s : State) (k : Nat) (sch : Nat) (started : Bool) :
    Within [.contingencies, .messages] s (s.takeAnswer k sch started) := by
  unfold State.takeAnswer
  try dsimp only
  repeat' split
  all_goals (repeat (first
    | with_reducible exact Within.refl _ _
    | with_reducible refine (State.send_within _ _).then (by decide) ?_
    | with_reducible refine (State.setContingency_within _ _ _).then (by decide) ?_
    | with_reducible refine (State.noteQuiet_within _).then (by decide) ?_
    | split))

theorem State.lowerCount_within (s : State) (k : Nat) :
    Within [.contingencies] s (s.lowerCount k) := by
  unfold State.lowerCount
  try dsimp only
  repeat' split
  all_goals (repeat (first
    | with_reducible exact Within.refl _ _
    | with_reducible refine (State.setContingency_within _ _ _).then (by decide) ?_
    | split))

theorem contingencyDone_within (k : Nat) (before : ContingencyState) (s : State) :
    Within [] s (contingencyDone k before s).state := by
  unfold contingencyDone
  try dsimp only [Answer.refuse, Answer.done]
  repeat' split
  all_goals (repeat (first
    | with_reducible exact Within.refl _ _
    | split))

theorem contingencyResetRule_within (ws : List Word) (s : State) :
    Within [.contingencies] s (contingencyResetRule ws s).state := by
  unfold contingencyResetRule
  try dsimp only [Answer.refuse, Answer.done]
  repeat' split
  all_goals (repeat (first
    | with_reducible exact Within.refl _ _
    | with_reducible refine (contingencyDone_within _ _ _).then (by decide) ?_
    | with_reducible refine (State.setContingency_within _ _ _).then (by decide) ?_
    | split))

theorem State.poolChanged_within (s : State) (old : Vector (Option Action) 96) :
    Within [.preparation, .messages] s (s.poolChanged old) := by
  unfold State.poolChanged
  try dsimp only
  repeat' split
  all_goals (repeat (first
    | with_reducible exact Within.refl _ _
    | with_reducible refine (State.refreshStaged_within _).then (by decide) ?_
    | with_reducible refine (State.sendAll_within _ _).then (by decide) ?_
    | split))

theorem State.actionEvent_within (s : State) (a : Nat) (x : Action) :
    Within [.preparation, .actions, .messages] s (s.actionEvent a x) := by
  unfold State.actionEvent
  try dsimp only
  repeat' split
  all_goals (repeat (first
    | with_reducible exact Within.refl _ _
    | with_reducible refine (State.poolChanged_within _ _).then (by decide) ?_
    | with_reducible refine (State.setAction_within _ _ _).then (by decide) ?_
    | split))

theorem State.mapActions_within (s : State) (f : Nat → ActionDef → Action → Action) :
    Within [.actions] s (s.mapActions f) := by
  unfold State.mapActions
  try dsimp only
  repeat' split
  all_goals (repeat (first
    | with_reducible exact Within.refl _ _
    | exact Within.of_same (by intro p hp; cases p <;> simp_all [Part.same]) (by simp)
    | split))

theorem State.commitAction_within {s t : State} {a sch serial : Nat}
    (h : s.commitAction a sch serial = some t) : Within [.preparation, .actions, .messages] s t := by
  unfold State.commitAction at h
  split at h
  · exact absurd h (by simp)
  · split at h
    · obtain rfl := Option.some.inj h
      exact State.actionEvent_within _ _ _
    · exact absurd h (by simp)


theorem State.applyOutcome_within (s : State) (a : Nat) (serial : Nat) (f : FinalState) (m : Mode) :
    Within [.preparation, .actions, .messages] s (s.applyOutcome a serial f m) := by
  unfold State.applyOutcome
  try dsimp only
  repeat' split
  all_goals (repeat (first
    | with_reducible exact Within.refl _ _
    | with_reducible refine (State.actionEvent_within _ _ _).then (by decide) ?_
    | split))

theorem State.offerStray_within {s t : State} {site serial output result a : Nat}
    (h : s.offerStray site serial output result = some (a, t)) :
    Within [.preparation, .actions, .messages] s t := by
  unfold State.offerStray at h
  split at h
  · split at h
    · exact absurd h (by simp)
    · split at h
      · exact absurd h (by simp)
      · obtain ⟨-, rfl⟩ := Prod.mk.inj (Option.some.inj h)
        exact State.actionEvent_within _ _ _
  · exact absurd h (by simp)


theorem actionDone_within (a : Nat) (s : State) :
    Within [] s (actionDone a s).state := by
  unfold actionDone
  try dsimp only [Answer.refuse, Answer.done]
  repeat' split
  all_goals (repeat (first
    | with_reducible exact Within.refl _ _
    | split))

theorem blockControl_within (a : Nat) (y10 : ActionDef) (x : Action) (s : State) :
    Within [.preparation, .actions, .messages] s (blockControl a y10 x s).state := by
  unfold blockControl
  try dsimp only [Answer.refuse, Answer.done]
  repeat' split
  all_goals (repeat (first
    | with_reducible exact Within.refl _ _
    | with_reducible refine (actionDone_within _ _).then (by decide) ?_
    | with_reducible refine (State.actionEvent_within _ _ _).then (by decide) ?_
    | split))

theorem restoreControl_within (a : Nat) (d : ActionDef) (x : Action) (s : State) :
    Within [.preparation, .actions, .messages] s (restoreControl a d x s).state := by
  unfold restoreControl
  try dsimp only [Answer.refuse, Answer.done]
  repeat' split
  all_goals (repeat (first
    | with_reducible exact Within.refl _ _
    | with_reducible refine (actionDone_within _ _).then (by decide) ?_
    | with_reducible refine (State.actionEvent_within _ _ _).then (by decide) ?_
    | split))

theorem State.setView_within (s : State) (sch : Nat) (v : SchemeView) :
    Within [.engineWork] s (s.setView sch v) := by
  unfold State.setView
  try dsimp only
  repeat' split
  all_goals (repeat (first
    | with_reducible exact Within.refl _ _
    | with_reducible refine (State.setEngine_within _ _).then (by decide) ?_
    | exact Within.of_same (by intro p hp; cases p <;> simp_all [Part.same]) (by simp)
    | split))

theorem State.setHeld_within (s : State) (sch : Nat) (held : Bool) :
    Within [.engineWork] s (s.setHeld sch held) := by
  unfold State.setHeld
  try dsimp only
  repeat' split
  all_goals (repeat (first
    | with_reducible exact Within.refl _ _
    | with_reducible refine (State.setEngine_within _ _).then (by decide) ?_
    | exact Within.of_same (by intro p hp; cases p <;> simp_all [Part.same]) (by simp)
    | split))

theorem State.dropRoutine_within (s : State) (sch : Nat) :
    Within [.engineWork, .messages] s (s.dropRoutine sch) := by
  unfold State.dropRoutine
  try dsimp only
  repeat' split
  all_goals (repeat (first
    | with_reducible exact Within.refl _ _
    | with_reducible refine (State.startNext_within _).then (by decide) ?_
    | with_reducible refine (State.setEngine_within _ _).then (by decide) ?_
    | exact Within.of_same (by intro p hp; cases p <;> simp_all [Part.same]) (by simp)
    | split))

theorem State.takeRescan_within (s : State) (sch : Nat) :
    Within [.engineWork, .messages] s (s.takeRescan sch) := by
  unfold State.takeRescan
  try dsimp only
  repeat' split
  all_goals (repeat (first
    | with_reducible exact Within.refl _ _
    | with_reducible refine (State.setHeld_within _ _ _).then (by decide) ?_
    | with_reducible refine (State.queueScan_within _ _ _).then (by decide) ?_
    | split))

theorem State.planStep_within (s : State) (p : PlanScan) :
    Within [.preparation, .engineWork, .selections, .images, .channels, .links, .reports, .messages] s (s.planStep p) := by
  unfold State.planStep
  try dsimp only
  repeat' split
  all_goals (repeat (first
    | with_reducible exact Within.refl _ _
    | with_reducible refine (State.setEngine_within _ _).then (by decide) ?_
    | with_reducible refine (State.finishPlan_within _ _ _).then (by decide) ?_
    | exact Within.of_same (by intro p hp; cases p <;> simp_all [Part.same]) (by simp)
    | split))

theorem State.carryPoints_within (s : State) (old : Bank) :
    Within [.points] s (s.carryPoints old) := by
  unfold State.carryPoints
  try dsimp only
  repeat' split
  all_goals (repeat (first
    | with_reducible exact Within.refl _ _
    | exact Within.of_same (by intro p hp; cases p <;> simp_all [Part.same]) (by simp)
    | split))

theorem State.settleEnds_within (s : State) : Within [.contingencies] s s.settleEnds :=
  Within.foldl State.lowerCount_within _ _

theorem State.carryContingencies_within (s : State) :
    Within [.contingencies] s (s.carryContingencies) := by
  unfold State.carryContingencies
  try dsimp only
  repeat' split
  all_goals (repeat (first
    | with_reducible exact Within.refl _ _
    | exact Within.of_same (by intro p hp; cases p <;> simp_all [Part.same]) (by simp)
    | split))

theorem State.clearLink_within (s : State) (c : Nat) (site : Nat) :
    Within [.channels, .links] s (s.clearLink c site) := by
  unfold State.clearLink
  try dsimp only
  repeat' split
  all_goals (repeat (first
    | with_reducible exact Within.refl _ _
    | with_reducible refine (State.setLink_within _ _ _ _).then (by decide) ?_
    | with_reducible refine (State.setChannel_within _ _ _).then (by decide) ?_
    | split))

theorem State.keepChannel_within (s : State) (c : Nat) (before : List Nat) :
    Within [.channels, .links] s (s.keepChannel c before) := by
  unfold State.keepChannel
  try dsimp only
  repeat' split
  all_goals (repeat (first
    | with_reducible exact Within.refl _ _
    | with_reducible refine (State.clearLink_within _ _ _).then (by decide) ?_
    | with_reducible refine (State.setChannel_within _ _ _).then (by decide) ?_
    | with_reducible refine (Within.foldl (fun _ _ => State.clearLink_within _ _ _) _ _).then (by decide) ?_
    | split))

theorem State.commitReset_within (s : State) (c : Nat) :
    Within [.images, .channels, .links, .requests, .reports, .messages] s (s.commitReset c) := by
  unfold State.commitReset
  try dsimp only
  repeat' split
  all_goals (repeat (first
    | with_reducible exact Within.refl _ _
    | with_reducible refine (State.resetWorking_within _ _).then (by decide) ?_
    | with_reducible refine (State.reportChannel_within _ _ _ _ _).then (by decide) ?_
    | with_reducible refine (State.enterAcquiring_within _ _).then (by decide) ?_
    | with_reducible refine (State.noteChannel_within _ _ _ _).then (by decide) ?_
    | with_reducible refine (State.setChannel_within _ _ _).then (by decide) ?_
    | split))

theorem State.carryChannel_within (s : State) (old : Bank) (c : Nat) (before : List Nat) :
    Within [.images, .channels, .links, .requests, .reports, .messages] s (s.carryChannel old c before) := by
  unfold State.carryChannel
  try dsimp only
  repeat' split
  all_goals (repeat (first
    | with_reducible exact Within.refl _ _
    | with_reducible refine (State.keepChannel_within _ _ _).then (by decide) ?_
    | with_reducible refine (State.commitReset_within _ _).then (by decide) ?_
    | split))

theorem State.carrySite_within (s : State) (old : Bank) (heard : List Nat) (site : Nat) :
    Within [.sites, .reports, .messages] s (s.carrySite old heard site) := by
  unfold State.carrySite
  try dsimp only
  repeat' split
  all_goals (repeat (first
    | with_reducible exact Within.refl _ _
    | with_reducible refine (State.setSite_within _ _ _).then (by decide) ?_
    | with_reducible refine (State.refreshReach_within _ _ _).then (by decide) ?_
    | with_reducible refine (State.setRoute_within _ _ _ _).then (by decide) ?_
    | with_reducible refine (State.judgeRoute_within _ _ _).then (by decide) ?_
    | split))

theorem State.carryUnits_within (s : State) (old : Bank) :
    Within [.images, .channels, .sites, .links, .requests, .reports, .messages] s (s.carryUnits old) := by
  unfold State.carryUnits
  try dsimp only
  repeat' split
  all_goals (repeat (first
    | with_reducible exact Within.refl _ _
    | with_reducible refine (State.carryChannel_within _ _ _ _).then (by decide) ?_
    | with_reducible refine (State.carrySite_within _ _ _ _).then (by decide) ?_
    | with_reducible refine (Within.foldl (fun _ _ => State.carryChannel_within _ _ _ _) _ _).then (by decide) ?_
    | with_reducible refine (Within.foldl (fun _ _ => State.carrySite_within _ _ _ _) _ _).then (by decide) ?_
    | split))

theorem State.carryActions_within (s : State) :
    Within [.preparation, .actions] s (s.carryActions) := by
  unfold State.carryActions
  try dsimp only
  repeat' split
  all_goals (repeat (first
    | with_reducible exact Within.refl _ _
    | exact Within.of_same (by intro p hp; cases p <;> simp_all [Part.same]) (by simp)
    | split))

theorem State.commitScheme_within (old : Vector (Option Scheme) 16) (prepared : Vector (Option EvalRec) 16) (s : State) (i : Nat) :
    Within [.schemes, .reports, .messages] s (State.commitScheme old prepared s i) := by
  unfold State.commitScheme
  try dsimp only
  repeat' split
  all_goals (repeat (first
    | with_reducible exact Within.refl _ _
    | with_reducible refine (State.setScheme_within _ _ _).then (by decide) ?_
    | with_reducible refine (State.reportArm_within _ _ _ _ _).then (by decide) ?_
    | with_reducible refine (State.send_within _ _).then (by decide) ?_
    | exact Within.of_same (by intro p hp; cases p <;> simp_all [Part.same]) (by simp)
    | split))

theorem State.carrySchemes_within (s : State) :
    Within [.preparation, .schemes, .reports, .messages] s (s.carrySchemes) := by
  unfold State.carrySchemes
  dsimp only
  refine Within.trans (t := (List.range 16).foldl
    (State.commitScheme s.evaluator.schemes s.evaluator.prepared) s) ?_ (Within.of_same (by intro p hp; cases p <;> simp_all [Part.same]) (by simp))
  exact (Within.foldl (fun _ _ => State.commitScheme_within _ _ _ _) _ _).then (by decide)
    (Within.refl _ _)


theorem State.carryEngine_within (s : State) :
    Within [.preparation, .engineWork, .selections] s (s.carryEngine) := by
  unfold State.carryEngine
  try dsimp only
  repeat' split
  all_goals (repeat (first
    | with_reducible exact Within.refl _ _
    | with_reducible refine (State.setEngine_within _ _).then (by decide) ?_
    | exact Within.of_same (by intro p hp; cases p <;> simp_all [Part.same]) (by simp)
    | split))

theorem State.reportCarried_within (old : Vector (Option Selection) 16) (s : State) (i : Nat) :
    Within [.reports] s (State.reportCarried old s i) := by
  unfold State.reportCarried
  try dsimp only
  repeat' split
  all_goals (repeat (first
    | with_reducible exact Within.refl _ _
    | with_reducible refine (State.reportSelection_within _ _ _).then (by decide) ?_
    | with_reducible refine (State.report_within _ _).then (by decide) ?_
    | split))

theorem State.carryImage_within (old : Bank) (s : State) (site : Nat) :
    Within [.images, .channels, .links, .reports] s (State.carryImage old s site) := by
  unfold State.carryImage
  try dsimp only
  repeat' split
  all_goals (repeat (first
    | with_reducible exact Within.refl _ _
    | with_reducible refine (State.sendNewImage_within _ _ _).then (by decide) ?_
    | with_reducible refine (State.setImage_within _ _ _).then (by decide) ?_
    | with_reducible refine (State.refreshImage_within _ _).then (by decide) ?_
    | split))

theorem State.reportCommit_within (s : State) (former : Word) :
    Within [.reports] s (s.reportCommit former) := by
  unfold State.reportCommit
  try dsimp only
  repeat' split
  all_goals (repeat (first
    | with_reducible exact Within.refl _ _
    | with_reducible refine (State.reportBank_within _ _ _ _ _ _).then (by decide) ?_
    | split))

theorem State.commitBank_within (s : State) :
    Within [.activeBank, .stagedBank, .switch, .preparation, .points, .contingencies, .schemes, .alert, .actions, .engineWork, .selections, .images, .channels, .sites, .links, .requests, .reports, .messages] s (s.commitBank) := by
  unfold State.commitBank
  try dsimp only
  repeat' split
  all_goals (repeat (first
    | with_reducible exact Within.refl _ _
    | with_reducible refine (State.carryPoints_within _ _).then (by decide) ?_
    | with_reducible refine (State.withdraw_within _ _).then (by decide) ?_
    | with_reducible refine (State.settleEnds_within _).then (by decide) ?_
    | with_reducible refine (State.carryUnits_within _ _).then (by decide) ?_
    | with_reducible refine (State.carryContingencies_within _).then (by decide) ?_
    | with_reducible refine (State.carrySchemes_within _).then (by decide) ?_
    | with_reducible refine (State.carryActions_within _).then (by decide) ?_
    | with_reducible refine (State.carryEngine_within _).then (by decide) ?_
    | with_reducible refine (State.reportCarried_within _ _ _).then (by decide) ?_
    | with_reducible refine (State.carryImage_within _ _ _).then (by decide) ?_
    | with_reducible refine (State.reportCommit_within _ _).then (by decide) ?_
    | with_reducible refine (State.refreshAlert_within _).then (by decide) ?_
    | with_reducible refine (Within.foldl (fun _ _ => State.reportCarried_within _ _ _) _ _).then (by decide) ?_
    | with_reducible refine (Within.foldl (fun _ _ => State.carryImage_within _ _ _) _ _).then (by decide) ?_
    | exact Within.of_same (by intro p hp; cases p <;> simp_all [Part.same]) (by simp)
    | split))

theorem State.setRx_within (s : State) (r : Receiver) (x : RxState) :
    Within [.channels, .hostReceiver] s (s.setRx r x) := by
  unfold State.setRx
  try dsimp only
  repeat' split
  all_goals (repeat (first
    | with_reducible exact Within.refl _ _
    | with_reducible refine (State.setChannel_within _ _ _).then (by decide) ?_
    | exact Within.of_same (by intro p hp; cases p <;> simp_all [Part.same]) (by simp)
    | split))

theorem State.badHeader_within (s : State) (rx : Receiver) (bytes : List Byte) (h : Option Header) :
    Within [.channels, .sites, .links, .hostReceiver, .requests, .reports] s (s.badHeader rx bytes h) := by
  unfold State.badHeader
  try dsimp only
  repeat' split
  all_goals (repeat (first
    | with_reducible exact Within.refl _ _
    | with_reducible refine (State.setRx_within _ _ _).then (by decide) ?_
    | with_reducible refine (State.recordOutcomes_within _ _ _).then (by decide) ?_
    | with_reducible refine (State.refuseNow_within _ _ _ _).then (by decide) ?_
    | split))

theorem State.offerRequest_within (s : State) (h : Header) (ws : List Word) :
    Within [.requests] s (s.offerRequest h ws) := by
  unfold State.offerRequest
  try dsimp only
  repeat' split
  all_goals (repeat (first
    | with_reducible exact Within.refl _ _
    | with_reducible refine (State.refuseNow_within _ _ _ _).then (by decide) ?_
    | exact Within.of_same (by intro p hp; cases p <;> simp_all [Part.same]) (by simp)
    | split))

theorem identRule_within (y0 : List Word) (s : State) :
    Within [] s (identRule y0 s).state := by
  unfold identRule
  try dsimp only [Answer.refuse, Answer.done]
  repeat' split
  all_goals (repeat (first
    | with_reducible exact Within.refl _ _
    | split))

theorem State.updateOrder_within (s : State) (serial : Nat) (f : Order → Order) :
    Within [.orders] s (s.updateOrder serial f) := by
  unfold State.updateOrder
  try dsimp only
  repeat' split
  all_goals (repeat (first
    | with_reducible exact Within.refl _ _
    | with_reducible refine (State.mapOrders_within _ _).then (by decide) ?_
    | split))

theorem State.updateExec_within (s : State) (sch : Nat) (f : Exec → Exec) :
    Within [.executions] s (s.updateExec sch f) := by
  unfold State.updateExec
  try dsimp only
  repeat' split
  all_goals (repeat (first
    | with_reducible exact Within.refl _ _
    | with_reducible refine (State.setExec_within _ _ _).then (by decide) ?_
    | split))

theorem State.endOrder_within (s : State) (o : Order) (f : FinalState) (late : Bool) (mismatch : Bool) :
    Within [.preparation, .actions, .orders, .messages] s (s.endOrder o f late mismatch) := by
  unfold State.endOrder
  try dsimp only
  repeat' split
  all_goals (repeat (first
    | with_reducible exact Within.refl _ _
    | with_reducible refine (State.send_within _ _).then (by decide) ?_
    | with_reducible refine (State.updateOrder_within _ _ _).then (by decide) ?_
    | with_reducible refine (State.applyOutcome_within _ _ _ _ _).then (by decide) ?_
    | split))

theorem State.requestCover_within (s : State) (sch : Nat) :
    Within [.executions, .messages] s (s.requestCover sch) := by
  unfold State.requestCover
  try dsimp only
  repeat' split
  all_goals (repeat (first
    | with_reducible exact Within.refl _ _
    | with_reducible refine (State.send_within _ _).then (by decide) ?_
    | with_reducible refine (State.updateExec_within _ _ _).then (by decide) ?_
    | split))

theorem State.coverAfterFailure_within (s : State) (sch : Nat) :
    Within [.executions, .messages] s (s.coverAfterFailure sch) := by
  unfold State.coverAfterFailure
  try dsimp only
  repeat' split
  all_goals (repeat (first
    | with_reducible exact Within.refl _ _
    | with_reducible refine (State.requestCover_within _ _).then (by decide) ?_
    | with_reducible refine (State.updateExec_within _ _ _).then (by decide) ?_
    | split))

theorem State.failOrder_within (s : State) (o : Order) :
    Within [.preparation, .actions, .executions, .orders, .messages] s (s.failOrder o) := by
  unfold State.failOrder
  try dsimp only
  repeat' split
  all_goals (repeat (first
    | with_reducible exact Within.refl _ _
    | with_reducible refine (State.endOrder_within _ _ _ _ _).then (by decide) ?_
    | with_reducible refine (State.updateExec_within _ _ _).then (by decide) ?_
    | split))

theorem State.endExecution_within (s : State) (sch : Nat) (x : Exec) (outcome : ExecOutcome) :
    Within [.executions, .orders, .reports, .messages] s (s.endExecution sch x outcome) := by
  unfold State.endExecution
  dsimp only
  refine Within.trans (t := State.sendAll (((s.ordersOf sch).map (orderReport (decide (x.mode = .test))) ++
    [s.endReport sch x outcome]).foldl State.report s) [.schemeEnd sch x.mode, .execEnd x.contingency sch])
    ?_ (Within.of_same (by intro p hp; cases p <;> simp_all [Part.same]) (by simp))
  refine (State.sendAll_within _ _).then (by decide) ?_
  exact (Within.foldl (fun _ _ => State.report_within _ _) _ _).then (by decide) (Within.refl _ _)


theorem State.judgeEnd_within (s : State) (sch : Nat) :
    Within [.executions, .orders, .reports, .messages] s (s.judgeEnd sch) := by
  unfold State.judgeEnd
  try dsimp only
  repeat' split
  all_goals (repeat (first
    | with_reducible exact Within.refl _ _
    | with_reducible refine (State.endExecution_within _ _ _ _).then (by decide) ?_
    | split))

theorem State.failAndFollow_within (s : State) (o : Order) :
    Within [.preparation, .actions, .executions, .orders, .reports, .messages] s (s.failAndFollow o) := by
  unfold State.failAndFollow
  try dsimp only
  repeat' split
  all_goals (repeat (first
    | with_reducible exact Within.refl _ _
    | with_reducible refine (State.judgeEnd_within _ _).then (by decide) ?_
    | with_reducible refine (State.coverAfterFailure_within _ _).then (by decide) ?_
    | with_reducible refine (State.failOrder_within _ _).then (by decide) ?_
    | split))

theorem State.retry_failOrder_within (s : State) (o : Order) :
    Within [.preparation, .actions, .images, .executions, .orders, .channels, .links, .messages] s (s.retry o State.failOrder) := by
  unfold State.retry
  dsimp only
  repeat' split
  all_goals (repeat (first
    | with_reducible exact Within.refl _ _
    | with_reducible refine (State.failOrder_within _ _).then (by decide) ?_
    | with_reducible refine (State.updateOrder_within _ _ _).then (by decide) ?_
    | (rename_i h; refine (State.offer_within' h).then (by decide) ?_)))

theorem State.retry_failAndFollow_within (s : State) (o : Order) :
    Within [.preparation, .actions, .images, .executions, .orders, .channels, .links, .reports, .messages] s (s.retry o State.failAndFollow) := by
  unfold State.retry
  dsimp only
  repeat' split
  all_goals (repeat (first
    | with_reducible exact Within.refl _ _
    | with_reducible refine (State.failAndFollow_within _ _).then (by decide) ?_
    | with_reducible refine (State.updateOrder_within _ _ _).then (by decide) ?_
    | (rename_i h; refine (State.offer_within' h).then (by decide) ?_)))


theorem State.attemptLost_within (s : State) (o : Order) :
    Within [.preparation, .actions, .images, .executions, .orders, .channels, .links, .reports, .messages] s (s.attemptLost o) := by
  unfold State.attemptLost
  repeat' split
  all_goals first
    | exact Within.refl _ _
    | exact (State.retry_failAndFollow_within _ _).then (by decide) (Within.refl _ _)
    | exact (State.failAndFollow_within _ _).then (by decide) (Within.refl _ _)


theorem State.createOrder_within (s : State) (o : Order) :
    Within [.preparation, .actions, .images, .executions, .orders, .channels, .links, .messages] s (s.createOrder o) := by
  unfold State.createOrder
  dsimp only
  split
  all_goals rename_i h
  · refine (State.offer_within' h).then (by decide) ?_
    refine (State.send_within _ _).then (by decide) ?_
    exact Within.of_same (by intro p hp; cases p <;> simp_all [Part.same]) (by simp)
  · refine (State.retry_failOrder_within _ _).then (by decide) ?_
    refine (State.offer_within' h).then (by decide) ?_
    refine (State.send_within _ _).then (by decide) ?_
    exact Within.of_same (by intro p hp; cases p <;> simp_all [Part.same]) (by simp)


theorem State.walkEntry_within (sch : Nat) (origin : OrderOrigin) (s : State) (e : SelEntry) :
    Within [.preparation, .actions, .images, .executions, .orders, .channels, .links, .messages] s (State.walkEntry sch origin s e) := by
  unfold State.walkEntry
  split
  · exact (State.updateExec_within _ _ _).then (by decide) (Within.refl _ _)
  · split
    · rename_i h _
      split
      · exact (State.updateExec_within _ _ _).then (by decide) (Within.refl _ _)
      · exact (State.createOrder_within _ _).then (by decide)
          ((State.commitAction_within h).then (by decide) (Within.refl _ _))
    · exact (State.updateExec_within _ _ _).then (by decide) (Within.refl _ _)


theorem State.walkSelection_within (s : State) (sch : Nat) (d : SchemeDef) (es : List SelEntry) :
    Within [.preparation, .actions, .images, .executions, .orders, .channels, .links, .messages] s (s.walkSelection sch d es) := by
  unfold State.walkSelection
  try dsimp only
  repeat' split
  all_goals (repeat (first
    | with_reducible exact Within.refl _ _
    | with_reducible refine (State.walkEntry_within _ _ _ _).then (by decide) ?_
    | with_reducible refine (Within.foldl (fun _ _ => State.walkEntry_within _ _ _ _) _ _).then (by decide) ?_
    | split))

theorem State.coverAfterStart_within (s : State) (sch : Nat) :
    Within [.executions, .messages] s (s.coverAfterStart sch) := by
  unfold State.coverAfterStart
  try dsimp only
  repeat' split
  all_goals (repeat (first
    | with_reducible exact Within.refl _ _
    | with_reducible refine (State.requestCover_within _ _).then (by decide) ?_
    | split))

theorem State.startExecution_within (s : State) (k : Nat) (sch : Nat) (detect : Time) (degraded : Bool) (d : SchemeDef) (x : Scheme) :
    Within [.preparation, .schemes, .alert, .actions, .engineWork, .images, .executions, .orders, .channels, .links, .reports, .messages] s (s.startExecution k sch detect degraded d x) := by
  unfold State.startExecution
  try dsimp only
  repeat' split
  all_goals (repeat (first
    | with_reducible exact Within.refl _ _
    | with_reducible refine (State.setExec_within _ _ _).then (by decide) ?_
    | with_reducible refine (State.enterExecuting_within _ _ _).then (by decide) ?_
    | with_reducible refine (State.send_within _ _).then (by decide) ?_
    | with_reducible refine (State.report_within _ _).then (by decide) ?_
    | with_reducible refine (State.judgeEnd_within _ _).then (by decide) ?_
    | with_reducible refine (State.coverAfterStart_within _ _).then (by decide) ?_
    | with_reducible refine (State.walkSelection_within _ _ _ _).then (by decide) ?_
    | split))

theorem State.confirmOrder_within (s : State) (o : Order) (result : Nat) :
    Within [.preparation, .actions, .executions, .orders, .channels, .reports, .messages] s (s.confirmOrder o result) := by
  unfold State.confirmOrder
  try dsimp only
  repeat' split
  all_goals (repeat (first
    | with_reducible exact Within.refl _ _
    | with_reducible refine (State.withdrawFrames_within _ _).then (by decide) ?_
    | with_reducible refine (State.judgeEnd_within _ _).then (by decide) ?_
    | with_reducible refine (State.endOrder_within _ _ _ _ _).then (by decide) ?_
    | split))

theorem State.refuseOrder_within (s : State) (o : Order) :
    Within [.preparation, .actions, .executions, .orders, .channels, .reports, .messages] s (s.refuseOrder o) := by
  unfold State.refuseOrder
  try dsimp only
  repeat' split
  all_goals (repeat (first
    | with_reducible exact Within.refl _ _
    | with_reducible refine (State.failAndFollow_within _ _).then (by decide) ?_
    | with_reducible refine (State.withdrawFrames_within _ _).then (by decide) ?_
    | split))

theorem State.confirmLate_within (s : State) (o : Order) (result : Nat) :
    Within [.executions, .orders, .reports, .messages] s (s.confirmLate o result) := by
  unfold State.confirmLate
  try dsimp only
  repeat' split
  all_goals (repeat (first
    | with_reducible exact Within.refl _ _
    | with_reducible refine (State.updateOrder_within _ _ _).then (by decide) ?_
    | with_reducible refine (State.judgeEnd_within _ _).then (by decide) ?_
    | with_reducible refine (State.send_within _ _).then (by decide) ?_
    | split))

theorem State.takeAck_within (s : State) (o : Order) (result : Nat) :
    Within [.preparation, .actions, .executions, .orders, .channels, .reports, .messages] s (s.takeAck o result) := by
  unfold State.takeAck
  try dsimp only
  repeat' split
  all_goals (repeat (first
    | with_reducible exact Within.refl _ _
    | with_reducible refine (State.refuseOrder_within _ _).then (by decide) ?_
    | with_reducible refine (State.confirmOrder_within _ _ _).then (by decide) ?_
    | with_reducible refine (State.confirmLate_within _ _ _).then (by decide) ?_
    | split))

theorem State.takeStray_within (s : State) (site : Nat) (serial : Nat) (output : Nat) (result : Nat) :
    Within [.preparation, .actions, .reports, .messages] s (s.takeStray site serial output result) := by
  unfold State.takeStray
  split
  · exact Within.refl _ _
  · rename_i h
    exact (State.report_within _ _).then (by decide)
      ((State.offerStray_within h).then (by decide) (Within.refl _ _))


theorem State.loseAttempt_within (s : State) (serial : Nat) :
    Within [.preparation, .actions, .images, .executions, .orders, .channels, .links, .reports, .messages] s (s.loseAttempt serial) := by
  unfold State.loseAttempt
  try dsimp only
  repeat' split
  all_goals (repeat (first
    | with_reducible exact Within.refl _ _
    | with_reducible refine (State.attemptLost_within _ _).then (by decide) ?_
    | split))

theorem State.coverEntry_within (sch : Nat) (s : State) (e : SelEntry) :
    Within [.preparation, .actions, .images, .executions, .orders, .channels, .links, .messages] s (State.coverEntry sch s e) := by
  unfold State.coverEntry
  try dsimp only
  repeat' split
  all_goals (repeat (first
    | with_reducible exact Within.refl _ _
    | with_reducible refine (State.walkEntry_within _ _ _ _).then (by decide) ?_
    | with_reducible refine (State.updateExec_within _ _ _).then (by decide) ?_
    | split))

theorem State.afterHandover_within (s : State) (sch : Nat) (created : Bool) :
    Within [.executions, .messages] s (s.afterHandover sch created) := by
  unfold State.afterHandover
  try dsimp only
  repeat' split
  all_goals (repeat (first
    | with_reducible exact Within.refl _ _
    | with_reducible refine (State.updateExec_within _ _ _).then (by decide) ?_
    | with_reducible refine (State.requestCover_within _ _).then (by decide) ?_
    | split))

theorem State.expireOrder_within (s : State) (o : Order) :
    Within [.preparation, .actions, .orders, .channels, .messages] s (s.expireOrder o) := by
  unfold State.expireOrder
  try dsimp only
  repeat' split
  all_goals (repeat (first
    | with_reducible exact Within.refl _ _
    | with_reducible refine (State.endOrder_within _ _ _ _ _).then (by decide) ?_
    | with_reducible refine (State.withdrawFrames_within _ _).then (by decide) ?_
    | split))

theorem State.cancelCover_within (s : State) (sch : Nat) :
    Within [.messages] s (s.cancelCover sch) := by
  unfold State.cancelCover
  try dsimp only
  repeat' split
  all_goals (repeat (first
    | with_reducible exact Within.refl _ _
    | with_reducible refine (State.send_within _ _).then (by decide) ?_
    | with_reducible refine (State.withdraw_within _ _).then (by decide) ?_
    | split))

theorem State.restartBanks_within (s : State) :
    Within [.switch, .preparation, .engineWork, .reports, .messages] s (s.restartBanks) := by
  unfold State.restartBanks
  try dsimp only
  repeat' split
  all_goals (repeat (first
    | with_reducible exact Within.refl _ _
    | with_reducible refine (State.cancelSwitch_within _ _).then (by decide) ?_
    | split))

theorem State.restartDetector_within (s : State) :
    Within [.contingencies, .alert] s (s.restartDetector) := by
  unfold State.restartDetector
  try dsimp only
  repeat' split
  all_goals (repeat (first
    | with_reducible exact Within.refl _ _
    | exact Within.of_same (by intro p hp; cases p <;> simp_all [Part.same]) (by simp)
    | split))

theorem State.restartDispatcher_within (s : State) :
    Within [.executions, .orders, .reports] s (s.restartDispatcher) := by
  unfold State.restartDispatcher
  dsimp only
  refine Within.trans (t := s.report (mkReport .engineRestart false s.now 0
    [wordOf s.execCount, wordOf s.liveCount])) ?_ (Within.of_same (by intro p hp; cases p <;> simp_all [Part.same]) (by simp))
  exact (State.report_within _ _).then (by decide) (Within.refl _ _)


theorem State.restartPool_within (s : State) :
    Within [.preparation, .actions, .messages] s (s.restartPool) := by
  unfold State.restartPool
  try dsimp only
  repeat' split
  all_goals (repeat (first
    | with_reducible exact Within.refl _ _
    | with_reducible refine (State.poolChanged_within _ _).then (by decide) ?_
    | exact Within.of_same (by intro p hp; cases p <;> simp_all [Part.same]) (by simp)
    | split))

theorem State.restartEngine_within (s : State) :
    Within [.preparation, .engineWork, .selections, .images, .channels, .links, .reports] s (s.restartEngine) := by
  unfold State.restartEngine
  try dsimp only
  repeat' split
  all_goals (repeat (first
    | with_reducible exact Within.refl _ _
    | with_reducible refine (State.refreshImages_within _).then (by decide) ?_
    | with_reducible refine (State.setEngine_within _ _).then (by decide) ?_
    | exact Within.of_same (by intro p hp; cases p <;> simp_all [Part.same]) (by simp)
    | split))

theorem State.restartScheme_within (s : State) (i : Nat) :
    Within [.preparation, .schemes, .engineWork, .reports, .messages] s (s.restartScheme i) := by
  unfold State.restartScheme
  try dsimp only
  repeat' split
  all_goals (repeat (first
    | with_reducible exact Within.refl _ _
    | with_reducible refine (State.setScheme_within _ _ _).then (by decide) ?_
    | with_reducible refine (State.writeScheme_within _ _ _ _ _).then (by decide) ?_
    | with_reducible refine (State.send_within _ _).then (by decide) ?_
    | split))

theorem State.restartEvaluator_within (s : State) :
    Within [.preparation, .schemes, .alert, .engineWork, .reports, .messages] s (s.restartEvaluator) := by
  unfold State.restartEvaluator
  try dsimp only
  repeat' split
  all_goals (repeat (first
    | with_reducible exact Within.refl _ _
    | with_reducible refine (State.refreshAlert_within _).then (by decide) ?_
    | with_reducible refine (State.restartScheme_within _ _).then (by decide) ?_
    | with_reducible refine (Within.foldl (fun _ _ => State.restartScheme_within _ _) _ _).then (by decide) ?_
    | split))

theorem State.clearTrips_within (s : State) :
    Within [.channels, .sites] s (s.clearTrips) := by
  unfold State.clearTrips
  try dsimp only
  repeat' split
  all_goals (repeat (first
    | with_reducible exact Within.refl _ _
    | exact Within.of_same (by intro p hp; cases p <;> simp_all [Part.same]) (by simp)
    | split))

theorem State.judgeRevert_within (s : State) (site : Nat) :
    Within [.sites, .reports] s (s.judgeRevert site) := by
  unfold State.judgeRevert
  try dsimp only
  repeat' split
  all_goals (repeat (first
    | with_reducible exact Within.refl _ _
    | with_reducible refine (State.judgeRoute_within _ _ _).then (by decide) ?_
    | split))

theorem State.restartUnits_within (s : State) :
    Within [.channels, .sites, .reports] s (s.restartUnits) := by
  unfold State.restartUnits
  try dsimp only
  repeat' split
  all_goals (repeat (first
    | with_reducible exact Within.refl _ _
    | with_reducible refine (State.judgeRevert_within _ _).then (by decide) ?_
    | with_reducible refine (State.clearTrips_within _).then (by decide) ?_
    | with_reducible refine (Within.foldl (fun _ _ => State.judgeRevert_within _ _) _ _).then (by decide) ?_
    | split))

theorem State.restart_within (s : State) :
    Within [.switch, .preparation, .contingencies, .schemes, .alert, .actions, .engineWork, .selections, .images, .executions, .orders, .channels, .sites, .links, .requests, .reports, .messages] s (s.restart) := by
  unfold State.restart
  dsimp only
  refine Within.trans (t := (s.withdraw dropsAtRestart).restartBanks.restartDetector.restartDispatcher.restartPool.restartUnits.restartEngine.restartEvaluator) ?_ (Within.of_same (by intro p hp; cases p <;> simp_all [Part.same]) (by simp))
  refine (State.restartEvaluator_within _).then (by decide) ?_
  refine (State.restartEngine_within _).then (by decide) ?_
  refine (State.restartUnits_within _).then (by decide) ?_
  refine (State.restartPool_within _).then (by decide) ?_
  refine (State.restartDispatcher_within _).then (by decide) ?_
  refine (State.restartDetector_within _).then (by decide) ?_
  refine (State.restartBanks_within _).then (by decide) ?_
  exact (State.withdraw_within _ _).then (by decide) (Within.refl _ _)


end Sys2Proof.Machine
end

