-- ==== Sys2Proof/Laws/Engine.lean ====
section
/-! SUPPORT. What the Selection Engine starts next, and which routine and shadow work each of its operations leaves:
one lemma for each operation. -/

namespace Sys2Proof.Machine

/-! ## The next piece of work (R90, R91) -/

theorem State.startNext_cover (s : State) (r : CoverReq) (rest : List CoverReq) (h : s.engine.running = none)
    (hc : s.engine.cover = r :: rest) :
    s.startNext = { s with
      engine := { s.engine with cover := rest, running := some (.cover ⟨r.scheme, r.deficit, 0, []⟩) }
      inflight := s.inflight ++ if .coverCancel r.scheme ∈ s.inflight then [] else [.coverStarted r.scheme] } := by
  have hm : s.coverCancelled r.scheme = decide (.coverCancel r.scheme ∈ s.inflight) := by
    unfold State.coverCancelled State.inFlight
    simp [List.any_eq]
  unfold State.startNext
  simp only [h, hc]
  unfold State.sendCover
  have : State.coverCancelled (s.setEngine { s.engine with
      cover := rest, running := some (.cover ⟨r.scheme, r.deficit, 0, []⟩) }) r.scheme =
      s.coverCancelled r.scheme := rfl
  rw [this, hm]
  by_cases hk : .coverCancel r.scheme ∈ s.inflight <;> simp [hk, State.setEngine, State.send]

/-- Without a cover request the suspended scan goes on, restarted where it has to. -/
theorem State.startNext_suspended (s : State) (x : Suspended) (h : s.engine.running = none)
    (hc : s.engine.cover = []) (hx : s.engine.suspended = some x) :
    s.startNext = { s with engine := { s.engine with
      suspended := none
      running := some (.plan (if s.mustRestart x then s.freshScan x.scan.kind x.scan.scheme else x.scan)) } } := by
  unfold State.startNext
  simp only [h, hc, hx]
  rfl

theorem State.startNext_queue (s : State) (h : s.engine.running = none) (hc : s.engine.cover = [])
    (hx : s.engine.suspended = none) :
    s.startNext = match s.engine.queue with
      | [] => s
      | q :: rest => { s with engine := { s.engine with
          queue := rest, running := some (.plan (s.freshScan q.kind q.scheme)) } } := by
  unfold State.startNext
  simp only [h, hc, hx]
  rfl

theorem State.startNext_busy (s : State) (x : Scan) (h : s.engine.running = some x) : s.startNext = s := by
  unfold State.startNext
  simp only [h]

theorem State.mustRestart_iff (s : State) (x : Suspended) :
    s.mustRestart x = true ↔ x.restart = true ∨
      ∃ a ∈ x.scan.list, ∀ credit, s.scanAction x.scan.kind a.action ≠ some (.available, credit) := by
  have lost (a : Nat) : s.scanCredit x.scan.kind a = none ↔
      ∀ credit, s.scanAction x.scan.kind a ≠ some (.available, credit) := by
    unfold State.scanCredit
    split <;> simp_all
  simp [State.mustRestart, lost]

/-- What the start of the next piece of work leaves of the Engine. -/
theorem State.startNext_stands (s : State) :
    s.startNext.engine.known = s.engine.known ∧ s.startNext.engine.held = s.engine.held ∧
      s.startNext.engine.shadow = s.engine.shadow ∧ s.startNext.engine.published = s.engine.published := by
  unfold State.startNext State.sendCover
  dsimp only
  repeat' split
  all_goals exact ⟨rfl, rfl, rfl, rfl⟩

/-! ## Work of a kind for a scheme -/

/-- The scan is of that kind for that scheme. -/
theorem Scan.isPlan_iff (k : PlanKind) (i : Nat) (x : Scan) :
    x.isPlan k i = true ↔ ∃ p, x = .plan p ∧ p.kind = k ∧ p.scheme = i := by
  cases x <;> simp [Scan.isPlan]

theorem Engine.runs_iff (e : Engine) (k : PlanKind) (i : Nat) :
    e.runs k i = true ↔ ∃ p, e.running = some (.plan p) ∧ p.kind = k ∧ p.scheme = i := by
  unfold Engine.runs
  cases e.running <;> simp [Scan.isPlan_iff]

theorem Engine.suspends_iff (e : Engine) (k : PlanKind) (i : Nat) :
    e.suspends k i = true ↔ ∃ x, e.suspended = some x ∧ x.scan.kind = k ∧ x.scan.scheme = i := by
  unfold Engine.suspends
  cases e.suspended <;> simp [Scan.isPlan_iff]

theorem Engine.hasWork_iff (e : Engine) (k : PlanKind) (i : Nat) :
    e.hasWork k i = true ↔ (∃ p, e.running = some (.plan p) ∧ p.kind = k ∧ p.scheme = i) ∨
      (∃ x, e.suspended = some x ∧ x.scan.kind = k ∧ x.scan.scheme = i) ∨ ⟨k, i⟩ ∈ e.queue := by
  simp [Engine.hasWork, Engine.queues, Engine.runs_iff, Engine.suspends_iff, or_assoc]

/-- What the Engine starts is work that it had: nothing is added and nothing lost. -/
theorem State.startNext_hasWork (s : State) (k : PlanKind) (i : Nat) :
    s.startNext.engine.hasWork k i = s.engine.hasWork k i := by
  rw [Bool.eq_iff_iff, Engine.hasWork_iff, Engine.hasWork_iff]
  cases h : s.engine.running with
  | some x => simp [s.startNext_busy x h, h]
  | none =>
    cases hc : s.engine.cover with
    | cons r rest => simp [s.startNext_cover r rest h hc]
    | nil =>
      cases hx : s.engine.suspended with
      | some x =>
        have same (y : PlanScan) (hy : y = if s.mustRestart x then s.freshScan x.scan.kind x.scan.scheme
            else x.scan) : y.kind = x.scan.kind ∧ y.scheme = x.scan.scheme := by
          subst hy
          split <;> exact ⟨rfl, rfl⟩
        simp [s.startNext_suspended x h hc hx, (same _ rfl).1, (same _ rfl).2]
      | none =>
        rw [s.startNext_queue h hc hx]
        cases hq : s.engine.queue with
        | nil => simp [h, hx, hq]
        | cons q rest =>
          obtain ⟨a, b⟩ := q
          simp [hx, State.freshScan, eq_comm]

theorem State.queueScan_stands (s : State) (k : PlanKind) (i : Nat) :
    let t := s.queueScan k i
    t.engine.known = s.engine.known ∧ t.engine.held = s.engine.held ∧ t.engine.shadow = s.engine.shadow ∧
      t.engine.published = s.engine.published := by
  unfold State.queueScan
  dsimp only
  repeat' split
  · exact ⟨rfl, rfl, rfl, rfl⟩
  · exact ⟨rfl, rfl, rfl, rfl⟩
  · exact ⟨rfl, rfl, rfl, rfl⟩
  · exact State.startNext_stands _

/-- A request for a scan leaves work for its scheme, and any other work as it stood (R89, R95). -/
theorem State.queueScan_hasWork (s : State) (k : PlanKind) (i : Nat) (c : PlanKind) (j : Nat) :
    (s.queueScan k i).engine.hasWork c j = true ↔ c = k ∧ j = i ∨ s.engine.hasWork c j = true := by
  unfold State.queueScan
  dsimp only
  split
  · rename_i hr
    obtain ⟨p, hp, rfl, rfl⟩ := (Engine.runs_iff _ _ _).1 hr
    simp only [Engine.hasWork_iff, State.setEngine, hp, State.freshScan]
    grind
  · split
    · rename_i hs
      obtain ⟨x, hx, rfl, rfl⟩ := (Engine.suspends_iff _ _ _).1 hs
      simp only [Engine.hasWork_iff, State.setEngine, hx, Option.map_some]
      grind
    · split
      · rename_i hq
        have : s.engine.hasWork k i = true := by simp [Engine.hasWork, hq]
        grind
      · rw [State.startNext_hasWork]
        simp only [Engine.hasWork_iff, State.setEngine, List.mem_append, List.mem_singleton, QueueEntry.mk.injEq]
        grind

/-- Work dropped for one scheme is gone, and any other work stands (R92, R95). -/
theorem Engine.dropWork_hasWork (e : Engine) (k : PlanKind) (i : Nat) (c : PlanKind) (j : Nat) :
    (e.dropWork k i).hasWork c j = true ↔ e.hasWork c j = true ∧ ¬(c = k ∧ j = i) := by
  have running (p : PlanScan) : (e.dropWork k i).running = some (.plan p) ↔
      e.running = some (.plan p) ∧ ¬(p.kind = k ∧ p.scheme = i) := by
    have := e.runs_iff k i
    simp only [Engine.dropWork]
    grind
  have suspended (x : Suspended) : (e.dropWork k i).suspended = some x ↔
      e.suspended = some x ∧ ¬(x.scan.kind = k ∧ x.scan.scheme = i) := by
    have := e.suspends_iff k i
    simp only [Engine.dropWork]
    grind
  have queue : (⟨c, j⟩ : QueueEntry) ∈ (e.dropWork k i).queue ↔ ⟨c, j⟩ ∈ e.queue ∧ ¬(c = k ∧ j = i) := by
    simp [Engine.dropWork]
  simp only [Engine.hasWork_iff, running, suspended, queue]
  grind

end Sys2Proof.Machine
end

