-- ==== Sys2Proof/Laws/Mail.lean ====
section
/-! SUPPORT. Which operations keep the messages that have been sent and not yet taken: every operation but the
cancelling of cover, the engine restart and the taking of a message. What operations send of one kind. -/

namespace Sys2Proof.Machine

theorem mailKept.refl (s : State) : mailKept s s := fun _ h _ => h

theorem mailKept.trans {s t u : State} (h : mailKept s t) (k : mailKept t u) : mailKept s u :=
  fun m hm hr => k m (h m hm hr) hr

theorem mailKept.then {s t u : State} (k : mailKept t u) (h : mailKept s t) : mailKept s u := h.trans k

theorem mailKept.foldl {α : Type} {f : State → α → State} (hf : ∀ s x, mailKept s (f s x)) (l : List α)
    (s : State) : mailKept s (l.foldl f s) := by
  induction l generalizing s with
  | nil => exact mailKept.refl s
  | cons x l ih => exact (hf s x).trans (ih (f s x))

theorem mailKept.of_eq {s t : State} (h : t.inflight = s.inflight) : mailKept s t :=
  fun _ hm _ => h ▸ hm

/-- An operation that does not change the messages keeps them. -/
theorem Within.mail {ps : List Part} {s t : State} (h : Within ps s t) (hp : Part.messages ∉ ps) :
    mailKept s t := mailKept.of_eq (h.same .messages hp)

theorem State.send_mail (s : State) (m : Msg) : mailKept s (s.send m) :=
  fun _ h _ => List.mem_append_left _ h

theorem State.sendAll_mail (s : State) (ms : List Msg) : mailKept s (s.sendAll ms) :=
  fun _ h _ => List.mem_append_left _ h

theorem State.withdraw_mail (s : State) (p : Msg → Bool)
    (hp : ∀ m : Msg, m.isShadowRequeue = false → p m = false) : mailKept s (s.withdraw p) :=
  fun m h hr => List.mem_filter.2 ⟨h, by simp [hp m hr]⟩

theorem State.refreshReach_mail (s : State) (c : Nat) (site : Nat) :
    mailKept s (s.refreshReach c site) := by
  unfold State.refreshReach
  try dsimp only
  repeat' split
  all_goals (repeat (first
    | with_reducible exact mailKept.refl _
    | with_reducible refine ((State.setSite_within _ _ _).mail (by decide)).then ?_
    | with_reducible refine (State.sendAll_mail _ _).then ?_
    | with_reducible refine ((State.report_within _ _).mail (by decide)).then ?_
    | split))

theorem State.reachChanged_mail (s : State) (c : Nat) (site : Nat) :
    mailKept s (s.reachChanged c site) := by
  unfold State.reachChanged
  try dsimp only
  repeat' split
  all_goals (repeat (first
    | with_reducible exact mailKept.refl _
    | with_reducible refine ((State.judgeRoute_within _ _ _).mail (by decide)).then ?_
    | with_reducible refine (State.refreshReach_mail _ _ _).then ?_
    | split))

theorem State.followChannel_mail (s : State) (c : Nat) :
    mailKept s (s.followChannel c) := by
  unfold State.followChannel
  try dsimp only
  repeat' split
  all_goals (repeat (first
    | with_reducible exact mailKept.refl _
    | with_reducible refine (State.reachChanged_mail _ _ _).then ?_
    | with_reducible refine (mailKept.foldl (fun _ _ => State.reachChanged_mail _ _ _) _ _).then ?_
    | split))

theorem State.clearQueue_mail (s : State) (c : Nat) (cause : LossCause) :
    mailKept s (s.clearQueue c cause) := by
  unfold State.clearQueue
  try dsimp only
  repeat' split
  all_goals (repeat (first
    | with_reducible exact mailKept.refl _
    | with_reducible refine ((State.setChannel_within _ _ _).mail (by decide)).then ?_
    | with_reducible refine ((State.tellDropped_within _ _ _).mail (by decide)).then ?_
    | with_reducible refine (State.send_mail _ _).then ?_
    | with_reducible refine (mailKept.foldl (fun _ _ => (State.tellDropped_within _ _ _).mail (by decide)) _ _).then ?_
    | split))

theorem State.clearChannel_mail (s : State) (c : Nat) (cause : LossCause) :
    mailKept s (s.clearChannel c cause) := by
  unfold State.clearChannel
  try dsimp only
  repeat' split
  all_goals (repeat (first
    | with_reducible exact mailKept.refl _
    | with_reducible refine ((State.clearLinks_within _ _).mail (by decide)).then ?_
    | with_reducible refine (State.clearQueue_mail _ _ _).then ?_
    | with_reducible refine ((State.setChannel_within _ _ _).mail (by decide)).then ?_
    | split))

theorem State.resetWorking_mail (s : State) (c : Nat) :
    mailKept s (s.resetWorking c) := by
  unfold State.resetWorking
  try dsimp only
  repeat' split
  all_goals (repeat (first
    | with_reducible exact mailKept.refl _
    | with_reducible refine (State.clearChannel_mail _ _ _).then ?_
    | with_reducible refine ((State.abortProbe_within _ _).mail (by decide)).then ?_
    | with_reducible refine ((State.setChannel_within _ _ _).mail (by decide)).then ?_
    | split))

theorem State.sendCover_mail (s : State) (sch : Nat) (m : Msg) : mailKept s (s.sendCover sch m) := by
  unfold State.sendCover
  split
  · exact mailKept.refl _
  · exact State.send_mail _ _

theorem State.startNext_mail (s : State) :
    mailKept s (s.startNext) := by
  unfold State.startNext
  try dsimp only
  repeat' split
  all_goals (repeat (first
    | with_reducible exact mailKept.refl _
    | with_reducible refine (State.sendCover_mail _ _ _).then ?_
    | with_reducible refine ((State.setEngine_within _ _).mail (by decide)).then ?_
    | exact mailKept.of_eq (by simp)
    | split))

theorem State.queueScan_mail (s : State) (k : PlanKind) (sch : Nat) :
    mailKept s (s.queueScan k sch) := by
  unfold State.queueScan
  try dsimp only
  repeat' split
  all_goals (repeat (first
    | with_reducible exact mailKept.refl _
    | with_reducible refine ((State.setEngine_within _ _).mail (by decide)).then ?_
    | with_reducible refine (State.startNext_mail _).then ?_
    | exact mailKept.of_eq (by simp)
    | split))

theorem State.noteShadow_mail (s : State) :
    mailKept s (s.noteShadow) := by
  unfold State.noteShadow
  try dsimp only
  repeat' split
  all_goals (repeat (first
    | with_reducible exact mailKept.refl _
    | with_reducible refine (State.send_mail _ _).then ?_
    | split))

theorem State.finishPlan_mail (s : State) (p : PlanScan) (t : Termination) :
    mailKept s (s.finishPlan p t) := by
  unfold State.finishPlan
  try dsimp only
  repeat' split
  all_goals (repeat (first
    | with_reducible exact mailKept.refl _
    | with_reducible refine ((State.setEngine_within _ _).mail (by decide)).then ?_
    | with_reducible refine (State.startNext_mail _).then ?_
    | with_reducible refine ((State.publish_within _ _ _).mail (by decide)).then ?_
    | with_reducible refine (State.noteShadow_mail _).then ?_
    | exact mailKept.of_eq (by simp)
    | split))

theorem State.finishCover_mail (s : State) (c : CoverScan) :
    mailKept s (s.finishCover c) := by
  unfold State.finishCover
  try dsimp only
  repeat' split
  all_goals (repeat (first
    | with_reducible exact mailKept.refl _
    | with_reducible refine (State.startNext_mail _).then ?_
    | with_reducible refine (State.sendCover_mail _ _ _).then ?_
    | with_reducible refine ((State.setEngine_within _ _).mail (by decide)).then ?_
    | exact mailKept.of_eq (by simp)
    | split))

theorem State.refreshStaged_mail (s : State) :
    mailKept s (s.refreshStaged) := by
  unfold State.refreshStaged
  try dsimp only
  repeat' split
  all_goals (repeat (first
    | with_reducible exact mailKept.refl _
    | with_reducible refine (State.sendAll_mail _ _).then ?_
    | exact mailKept.of_eq (by simp)
    | split))

theorem State.dropShadow_mail (s : State) (sch : Nat) :
    mailKept s (s.dropShadow sch) := by
  unfold State.dropShadow
  try dsimp only
  repeat' split
  all_goals (repeat (first
    | with_reducible exact mailKept.refl _
    | with_reducible refine ((State.setEngine_within _ _).mail (by decide)).then ?_
    | with_reducible refine (State.noteShadow_mail _).then ?_
    | with_reducible refine (State.startNext_mail _).then ?_
    | with_reducible refine (State.withdraw_mail _ _ (by intro m hm; cases m <;> simp_all [Msg.isShadowRequeue])).then ?_
    | exact mailKept.of_eq (by simp)
    | split))

theorem State.setPrepared_mail (s : State) (sch : Nat) (evaluated : Bool) (r : Option EvalRec)
    (outcome : Reported) :
    mailKept s (s.setPrepared sch evaluated r outcome) := by
  unfold State.setPrepared
  try dsimp only
  repeat' split
  all_goals (repeat (first
    | with_reducible exact mailKept.refl _
    | with_reducible refine (State.queueScan_mail _ _ _).then ?_
    | with_reducible refine (State.send_mail _ _).then ?_
    | with_reducible refine (State.dropShadow_mail _ _).then ?_
    | exact mailKept.of_eq (by simp)
    | split))

theorem State.prepareScheme_mail (renew : Bool) (s : State) (sch : Nat) :
    mailKept s (s.prepareScheme renew sch) := by
  unfold State.prepareScheme
  try dsimp only
  repeat' split
  all_goals (repeat (first
    | with_reducible exact mailKept.refl _
    | with_reducible refine (State.setPrepared_mail _ _ _ _ _).then ?_
    | split))

theorem State.refreshCarry_mail (s : State) (sch : Nat) :
    mailKept s (s.refreshCarry sch) := by
  unfold State.refreshCarry
  try dsimp only
  repeat' split
  all_goals (repeat (first
    | with_reducible exact mailKept.refl _
    | with_reducible refine (State.prepareScheme_mail _ _ _).then ?_
    | split))

theorem State.refreshPreparation_mail (s : State) :
    mailKept s (s.refreshPreparation) := by
  unfold State.refreshPreparation
  try dsimp only
  repeat' split
  all_goals (repeat (first
    | with_reducible exact mailKept.refl _
    | with_reducible refine (State.refreshStaged_mail _).then ?_
    | with_reducible refine (State.prepareScheme_mail _ _ _).then ?_
    | with_reducible refine (mailKept.foldl (fun _ _ => State.prepareScheme_mail _ _ _) _ _).then ?_
    | exact mailKept.of_eq (by simp)
    | split))

theorem State.startPreparation_mail (s : State) :
    mailKept s (s.startPreparation) := by
  unfold State.startPreparation
  try dsimp only
  repeat' split
  all_goals (repeat (first
    | with_reducible exact mailKept.refl _
    | with_reducible refine (State.noteShadow_mail _).then ?_
    | with_reducible refine (State.prepareScheme_mail _ _ _).then ?_
    | with_reducible refine (mailKept.foldl (fun _ _ => State.prepareScheme_mail _ _ _) _ _).then ?_
    | exact mailKept.of_eq (by simp)
    | split))

theorem State.endPreparation_mail (s : State) (next : SwitchState) :
    mailKept s (s.endPreparation next) := by
  unfold State.endPreparation
  try dsimp only
  repeat' split
  all_goals (repeat (first
    | with_reducible exact mailKept.refl _
    | with_reducible refine (State.startNext_mail _).then ?_
    | with_reducible refine (State.withdraw_mail _ _ (by intro m hm; cases m <;> simp_all [Msg.isShadowRequeue])).then ?_
    | exact mailKept.of_eq (by simp)
    | split))

theorem State.judgeQuiescence_mail (s : State) :
    mailKept s (s.judgeQuiescence) := by
  unfold State.judgeQuiescence
  try dsimp only
  repeat' split
  all_goals (repeat (first
    | with_reducible exact mailKept.refl _
    | with_reducible refine (State.startPreparation_mail _).then ?_
    | split))

theorem bankSwitchRule_mail (y0 : List Word) (s : State) :
    mailKept s (bankSwitchRule y0 s).state := by
  unfold bankSwitchRule
  try dsimp only [Answer.refuse, Answer.done]
  repeat' split
  all_goals (repeat (first
    | with_reducible exact mailKept.refl _
    | with_reducible refine (State.judgeQuiescence_mail _).then ?_
    | exact mailKept.of_eq (by simp)
    | split))

theorem State.cancelSwitch_mail (s : State) (cause : Nat) :
    mailKept s (s.cancelSwitch cause) := by
  unfold State.cancelSwitch
  dsimp only
  refine ((State.reportBank_within _ _ _ _ _ _).mail (by decide)).then ?_
  refine mailKept.trans (t := s.endPreparation .idle) ?_ (mailKept.of_eq (by simp))
  exact (State.endPreparation_mail _ _).then (mailKept.refl _)

theorem bankCancelRule_mail (y0 : List Word) (s : State) :
    mailKept s (bankCancelRule y0 s).state := by
  unfold bankCancelRule
  try dsimp only [Answer.refuse, Answer.done]
  repeat' split
  all_goals (repeat (first
    | with_reducible exact mailKept.refl _
    | with_reducible refine (State.cancelSwitch_mail _ _).then ?_
    | split))

theorem State.abortPreparation_mail (s : State) (k : Nat) :
    mailKept s (s.abortPreparation k) := by
  unfold State.abortPreparation
  try dsimp only
  repeat' split
  all_goals (repeat (first
    | with_reducible exact mailKept.refl _
    | with_reducible refine ((State.reportBank_within _ _ _ _ _ _).mail (by decide)).then ?_
    | with_reducible refine (State.endPreparation_mail _ _).then ?_
    | split))

theorem State.bringUp_mail (s : State) (c : Nat) (cause : ChannelCause) :
    mailKept s (s.bringUp c cause) := by
  unfold State.bringUp
  try dsimp only
  repeat' split
  all_goals (repeat (first
    | with_reducible exact mailKept.refl _
    | with_reducible refine (State.followChannel_mail _ _).then ?_
    | with_reducible refine ((State.noteChannel_within _ _ _ _).mail (by decide)).then ?_
    | with_reducible refine ((State.enterAcquiring_within _ _).mail (by decide)).then ?_
    | split))

theorem enableControl_mail (c : Nat) (s : State) :
    mailKept s (enableControl c s).state := by
  unfold enableControl
  try dsimp only [Answer.refuse, Answer.done]
  repeat' split
  all_goals (repeat (first
    | with_reducible exact mailKept.refl _
    | with_reducible refine ((channelDone_within _ _).mail (by decide)).then ?_
    | with_reducible refine (State.bringUp_mail _ _ _).then ?_
    | split))

theorem State.takeOut_mail (s : State) (c : Nat) (new : ChannelState) (cause : LossCause) :
    mailKept s (s.takeOut c new cause) := by
  unfold State.takeOut
  try dsimp only
  repeat' split
  all_goals (repeat (first
    | with_reducible exact mailKept.refl _
    | with_reducible refine (State.clearChannel_mail _ _ _).then ?_
    | with_reducible refine ((State.setChannel_within _ _ _).mail (by decide)).then ?_
    | with_reducible refine (State.followChannel_mail _ _).then ?_
    | with_reducible refine ((State.noteChannel_within _ _ _ _).mail (by decide)).then ?_
    | split))

theorem disableControl_mail (c : Nat) (s : State) :
    mailKept s (disableControl c s).state := by
  unfold disableControl
  try dsimp only [Answer.refuse, Answer.done]
  repeat' split
  all_goals (repeat (first
    | with_reducible exact mailKept.refl _
    | with_reducible refine ((channelDone_within _ _).mail (by decide)).then ?_
    | with_reducible refine (State.takeOut_mail _ _ _ _).then ?_
    | split))

theorem loopbackControl_mail (c : Nat) (s : State) :
    mailKept s (loopbackControl c s).state := by
  unfold loopbackControl
  try dsimp only [Answer.refuse, Answer.done]
  repeat' split
  all_goals (repeat (first
    | with_reducible exact mailKept.refl _
    | with_reducible refine ((channelDone_within _ _).mail (by decide)).then ?_
    | with_reducible refine ((State.huntAgain_within _ _).mail (by decide)).then ?_
    | with_reducible refine (State.takeOut_mail _ _ _ _).then ?_
    | split))

theorem normalControl_mail (c : Nat) (s : State) :
    mailKept s (normalControl c s).state := by
  unfold normalControl
  try dsimp only [Answer.refuse, Answer.done]
  repeat' split
  all_goals (repeat (first
    | with_reducible exact mailKept.refl _
    | with_reducible refine ((channelDone_within _ _).mail (by decide)).then ?_
    | with_reducible refine (State.bringUp_mail _ _ _).then ?_
    | split))

theorem State.hostReset_mail (s : State) (c : Nat) :
    mailKept s (s.hostReset c) := by
  unfold State.hostReset
  try dsimp only
  repeat' split
  all_goals (repeat (first
    | with_reducible exact mailKept.refl _
    | with_reducible refine (State.resetWorking_mail _ _).then ?_
    | with_reducible refine (State.followChannel_mail _ _).then ?_
    | with_reducible refine ((State.reportChannel_within _ _ _ _ _).mail (by decide)).then ?_
    | with_reducible refine ((State.enterAcquiring_within _ _).mail (by decide)).then ?_
    | split))

theorem resetControl_mail (c : Nat) (s : State) :
    mailKept s (resetControl c s).state := by
  unfold resetControl
  try dsimp only [Answer.refuse, Answer.done]
  repeat' split
  all_goals (repeat (first
    | with_reducible exact mailKept.refl _
    | with_reducible refine ((channelDone_within _ _).mail (by decide)).then ?_
    | with_reducible refine (State.hostReset_mail _ _).then ?_
    | split))

theorem State.pointEvent_mail (s : State) (new : PointStore) :
    mailKept s (s.pointEvent new) := by
  unfold State.pointEvent
  try dsimp only
  repeat' split
  all_goals (repeat (first
    | with_reducible exact mailKept.refl _
    | with_reducible refine ((State.report_within _ _).mail (by decide)).then ?_
    | with_reducible refine (State.refreshPreparation_mail _).then ?_
    | with_reducible refine (State.sendAll_mail _ _).then ?_
    | with_reducible refine (mailKept.foldl (fun _ _ => (State.report_within _ _).mail (by decide)) _ _).then ?_
    | exact mailKept.of_eq (by simp)
    | split))

theorem State.staleAnalog_mail (s : State) (a : Nat) :
    mailKept s (s.staleAnalog a) := by
  unfold State.staleAnalog
  try dsimp only
  repeat' split
  all_goals (repeat (first
    | with_reducible exact mailKept.refl _
    | with_reducible refine (State.pointEvent_mail _ _).then ?_
    | split))

theorem State.staleStatus_mail (s : State) (a : Nat) :
    mailKept s (s.staleStatus a) := by
  unfold State.staleStatus
  try dsimp only
  repeat' split
  all_goals (repeat (first
    | with_reducible exact mailKept.refl _
    | with_reducible refine (State.pointEvent_mail _ _).then ?_
    | split))

theorem State.failAnalog_mail (s : State) (a : Nat) :
    mailKept s (s.failAnalog a) := by
  unfold State.failAnalog
  try dsimp only
  repeat' split
  all_goals (repeat (first
    | with_reducible exact mailKept.refl _
    | with_reducible refine (State.pointEvent_mail _ _).then ?_
    | split))

theorem State.failStatus_mail (s : State) (a : Nat) :
    mailKept s (s.failStatus a) := by
  unfold State.failStatus
  try dsimp only
  repeat' split
  all_goals (repeat (first
    | with_reducible exact mailKept.refl _
    | with_reducible refine (State.pointEvent_mail _ _).then ?_
    | split))

theorem State.expireTargets_mail (s : State) (x : Samples) :
    mailKept s (s.expireTargets x) := by
  unfold State.expireTargets
  dsimp only
  refine (mailKept.foldl (fun t x => ?_) _ _).trans (mailKept.foldl (fun t x => ?_) _ _)
  · exact (State.failAnalog_mail _ _).then
      ((State.staleAnalog_mail _ _).then (mailKept.refl _))
  · exact (State.failStatus_mail _ _).then
      ((State.staleStatus_mail _ _).then (mailKept.refl _))

theorem State.takeSamples_mail (s : State) (x : Samples) :
    mailKept s (s.takeSamples x) := by
  unfold State.takeSamples
  try dsimp only
  repeat' split
  all_goals (repeat (first
    | with_reducible exact mailKept.refl _
    | with_reducible refine (State.expireTargets_mail _ _).then ?_
    | with_reducible refine (State.pointEvent_mail _ _).then ?_
    | split))

theorem State.filterFrame_mail (s : State) (site : Nat) (n : Byte) (x : Samples) :
    mailKept s (s.filterFrame site n x) := by
  unfold State.filterFrame
  try dsimp only
  repeat' split
  all_goals (repeat (first
    | with_reducible exact mailKept.refl _
    | with_reducible refine (State.takeSamples_mail _ _).then ?_
    | exact mailKept.of_eq (by simp)
    | split))

theorem pointPutRule_mail (ws : List Word) (s : State) :
    mailKept s (pointPutRule ws s).state := by
  unfold pointPutRule
  try dsimp only [Answer.refuse, Answer.done]
  repeat' split
  all_goals (repeat (first
    | with_reducible exact mailKept.refl _
    | with_reducible refine (State.takeSamples_mail _ _).then ?_
    | split))

theorem pointSubstRule_mail (ws : List Word) (s : State) :
    mailKept s (pointSubstRule ws s).state := by
  unfold pointSubstRule
  try dsimp only [Answer.refuse, Answer.done]
  repeat' split
  all_goals (repeat (first
    | with_reducible exact mailKept.refl _
    | with_reducible refine ((pointDone_within _ _).mail (by decide)).then ?_
    | with_reducible refine (State.pointEvent_mail _ _).then ?_
    | split))

theorem pointReleaseRule_mail (ws : List Word) (s : State) :
    mailKept s (pointReleaseRule ws s).state := by
  unfold pointReleaseRule
  try dsimp only [Answer.refuse, Answer.done]
  repeat' split
  all_goals (repeat (first
    | with_reducible exact mailKept.refl _
    | with_reducible refine ((pointDone_within _ _).mail (by decide)).then ?_
    | with_reducible refine (State.pointEvent_mail _ _).then ?_
    | split))

theorem State.refreshAlert_mail (s : State) :
    mailKept s (s.refreshAlert) := by
  unfold State.refreshAlert
  try dsimp only
  repeat' split
  all_goals (repeat (first
    | with_reducible exact mailKept.refl _
    | with_reducible refine (State.sendAll_mail _ _).then ?_
    | exact mailKept.of_eq (by simp)
    | split))

theorem State.noteDeparture_mail (s : State) (x : Scheme) (y : Scheme) :
    mailKept s (s.noteDeparture x y) := by
  unfold State.noteDeparture
  try dsimp only
  repeat' split
  all_goals (repeat (first
    | with_reducible exact mailKept.refl _
    | with_reducible refine (State.send_mail _ _).then ?_
    | split))

theorem State.writeScheme_mail (s : State) (i : Nat) (x : Scheme) (y : Scheme) (cause : ArmCause) :
    mailKept s (s.writeScheme i x y cause) := by
  unfold State.writeScheme
  try dsimp only
  repeat' split
  all_goals (repeat (first
    | with_reducible exact mailKept.refl _
    | with_reducible refine ((State.setScheme_within _ _ _).mail (by decide)).then ?_
    | with_reducible refine ((State.reportArm_within _ _ _ _ _).mail (by decide)).then ?_
    | with_reducible refine (State.send_mail _ _).then ?_
    | with_reducible refine (State.noteDeparture_mail _ _ _).then ?_
    | with_reducible refine (State.refreshCarry_mail _ _).then ?_
    | split))

theorem State.changeScheme_mail (s : State) (i : Nat) (x : Scheme) (y : Scheme) (cause : ArmCause) :
    mailKept s (s.changeScheme i x y cause) := by
  unfold State.changeScheme
  try dsimp only
  repeat' split
  all_goals (repeat (first
    | with_reducible exact mailKept.refl _
    | with_reducible refine (State.refreshAlert_mail _).then ?_
    | with_reducible refine (State.writeScheme_mail _ _ _ _ _).then ?_
    | split))

theorem State.judgeFrom_mail (s : State) (i : Nat) (d : SchemeDef) (x : Scheme) (base : Scheme) (release : Bool) (cause : Bool → ArmCause) :
    mailKept s (s.judgeFrom i d x base release cause) := by
  unfold State.judgeFrom
  try dsimp only
  repeat' split
  all_goals (repeat (first
    | with_reducible exact mailKept.refl _
    | with_reducible refine (State.changeScheme_mail _ _ _ _ _).then ?_
    | with_reducible refine (State.send_mail _ _).then ?_
    | split))

theorem State.batchScheme_mail (batch : List PointNotice) (s : State) (i : Nat) :
    mailKept s (State.batchScheme batch s i) := by
  unfold State.batchScheme
  try dsimp only
  repeat' split
  all_goals (repeat (first
    | with_reducible exact mailKept.refl _
    | with_reducible refine (State.judgeFrom_mail _ _ _ _ _ _ _).then ?_
    | split))

theorem State.freeze_mail (s : State) (i : Nat) (x : Scheme) :
    mailKept s (s.freeze i x) := by
  unfold State.freeze
  try dsimp only
  repeat' split
  all_goals (repeat (first
    | with_reducible exact mailKept.refl _
    | with_reducible refine (State.send_mail _ _).then ?_
    | with_reducible refine ((State.setScheme_within _ _ _).mail (by decide)).then ?_
    | split))

theorem State.release_mail (s : State) (i : Nat) (d : SchemeDef) (x : Scheme) :
    mailKept s (s.release i d x) := by
  unfold State.release
  try dsimp only
  repeat' split
  all_goals (repeat (first
    | with_reducible exact mailKept.refl _
    | with_reducible refine (State.send_mail _ _).then ?_
    | with_reducible refine ((State.setScheme_within _ _ _).mail (by decide)).then ?_
    | with_reducible refine (State.judgeFrom_mail _ _ _ _ _ _ _).then ?_
    | split))

theorem State.enterExecuting_mail (s : State) (i : Nat) (x : Scheme) :
    mailKept s (s.enterExecuting i x) := by
  unfold State.enterExecuting
  try dsimp only
  repeat' split
  all_goals (repeat (first
    | with_reducible exact mailKept.refl _
    | with_reducible refine (State.changeScheme_mail _ _ _ _ _).then ?_
    | split))

theorem schemeEnable_mail (i : Nat) (d : SchemeDef) (x : Scheme) (s : State) :
    mailKept s (schemeEnable i d x s).state := by
  unfold schemeEnable
  try dsimp only [Answer.refuse, Answer.done]
  repeat' split
  all_goals (repeat (first
    | with_reducible exact mailKept.refl _
    | with_reducible refine ((schemeDone_within _ _).mail (by decide)).then ?_
    | with_reducible refine (State.judgeFrom_mail _ _ _ _ _ _ _).then ?_
    | split))

theorem schemeDisable_mail (i : Nat) (y10 : SchemeDef) (x : Scheme) (s : State) :
    mailKept s (schemeDisable i y10 x s).state := by
  unfold schemeDisable
  try dsimp only [Answer.refuse, Answer.done]
  repeat' split
  all_goals (repeat (first
    | with_reducible exact mailKept.refl _
    | with_reducible refine ((schemeDone_within _ _).mail (by decide)).then ?_
    | with_reducible refine (State.changeScheme_mail _ _ _ _ _).then ?_
    | split))

theorem schemeBlock_mail (v : Bool) (i : Nat) (y21 : SchemeDef) (x : Scheme) (s : State) :
    mailKept s (schemeBlock v i y21 x s).state := by
  unfold schemeBlock
  try dsimp only [Answer.refuse, Answer.done]
  repeat' split
  all_goals (repeat (first
    | with_reducible exact mailKept.refl _
    | with_reducible refine ((schemeDone_within _ _).mail (by decide)).then ?_
    | with_reducible refine (State.refreshCarry_mail _ _).then ?_
    | with_reducible refine ((State.setScheme_within _ _ _).mail (by decide)).then ?_
    | split))

theorem schemeMode_mail (m : Mode) (i : Nat) (y31 : SchemeDef) (x : Scheme) (s : State) :
    mailKept s (schemeMode m i y31 x s).state := by
  unfold schemeMode
  try dsimp only [Answer.refuse, Answer.done]
  repeat' split
  all_goals (repeat (first
    | with_reducible exact mailKept.refl _
    | with_reducible refine ((schemeDone_within _ _).mail (by decide)).then ?_
    | with_reducible refine (State.changeScheme_mail _ _ _ _ _).then ?_
    | split))

theorem schemeResetRule_mail (ws : List Word) (s : State) :
    mailKept s (schemeResetRule ws s).state := by
  unfold schemeResetRule
  try dsimp only [Answer.refuse, Answer.done]
  repeat' split
  all_goals (repeat (first
    | with_reducible exact mailKept.refl _
    | with_reducible refine ((resetDone_within _ _).mail (by decide)).then ?_
    | with_reducible refine (State.judgeFrom_mail _ _ _ _ _ _ _).then ?_
    | split))

theorem State.notePending_mail (s : State) :
    mailKept s (s.notePending) := by
  unfold State.notePending
  try dsimp only
  repeat' split
  all_goals (repeat (first
    | with_reducible exact mailKept.refl _
    | with_reducible refine (State.send_mail _ _).then ?_
    | split))

theorem State.noteQuiet_mail (s : State) :
    mailKept s (s.noteQuiet) := by
  unfold State.noteQuiet
  try dsimp only
  repeat' split
  all_goals (repeat (first
    | with_reducible exact mailKept.refl _
    | with_reducible refine (State.send_mail _ _).then ?_
    | split))

theorem State.enterPending_mail (s : State) (k : Nat) (d : ContingencyDef) (x : Contingency) :
    mailKept s (s.enterPending k d x) := by
  unfold State.enterPending
  try dsimp only
  repeat' split
  all_goals (repeat (first
    | with_reducible exact mailKept.refl _
    | with_reducible refine (State.sendAll_mail _ _).then ?_
    | with_reducible refine ((State.setContingency_within _ _ _).mail (by decide)).then ?_
    | with_reducible refine (State.send_mail _ _).then ?_
    | with_reducible refine (State.notePending_mail _).then ?_
    | split))

theorem State.applyEvidence_mail (f : ContingencyDef → Evidence) (s : State) (k : Nat) :
    mailKept s (State.applyEvidence f s k) := by
  unfold State.applyEvidence
  try dsimp only
  repeat' split
  all_goals (repeat (first
    | with_reducible exact mailKept.refl _
    | with_reducible refine ((State.setContingency_within _ _ _).mail (by decide)).then ?_
    | with_reducible refine (State.enterPending_mail _ _ _ _).then ?_
    | split))

theorem State.detect_mail (s : State) (k : Nat) (x : Contingency) :
    mailKept s (s.detect k x) := by
  unfold State.detect
  try dsimp only
  repeat' split
  all_goals (repeat (first
    | with_reducible exact mailKept.refl _
    | with_reducible refine (State.noteQuiet_mail _).then ?_
    | with_reducible refine (State.notePending_mail _).then ?_
    | with_reducible refine ((State.setContingency_within _ _ _).mail (by decide)).then ?_
    | with_reducible refine (State.sendAll_mail _ _).then ?_
    | with_reducible refine ((State.report_within _ _).mail (by decide)).then ?_
    | split))

theorem State.judgePending_mail (before : State) (batch : List CheckMsg) (f : ContingencyDef → Evidence)
    (s : State) (k : Nat) :
    mailKept s (before.judgePending batch f s k) := by
  unfold State.judgePending
  try dsimp only
  repeat' split
  all_goals (repeat (first
    | with_reducible exact mailKept.refl _
    | with_reducible refine ((State.setContingency_within _ _ _).mail (by decide)).then ?_
    | with_reducible refine (State.detect_mail _ _ _).then ?_
    | split))

theorem State.evidenceEvent_mail (s : State) (batch : List CheckMsg) (f : ContingencyDef → Evidence) :
    mailKept s (s.evidenceEvent batch f) := by
  unfold State.evidenceEvent
  try dsimp only
  repeat' split
  all_goals (repeat (first
    | with_reducible exact mailKept.refl _
    | with_reducible refine (State.applyEvidence_mail _ _ _).then ?_
    | with_reducible refine (State.judgePending_mail _ _ _ _ _).then ?_
    | with_reducible refine (mailKept.foldl (fun _ _ => State.applyEvidence_mail _ _ _) _ _).then ?_
    | with_reducible refine (mailKept.foldl (fun _ _ => State.judgePending_mail _ _ _ _ _) _ _).then ?_
    | split))

theorem State.expireWindow_mail (s : State) (k : Nat) (x : Contingency) :
    mailKept s (s.expireWindow k x) := by
  unfold State.expireWindow
  try dsimp only
  repeat' split
  all_goals (repeat (first
    | with_reducible exact mailKept.refl _
    | with_reducible refine (State.sendAll_mail _ _).then ?_
    | with_reducible refine ((State.setContingency_within _ _ _).mail (by decide)).then ?_
    | with_reducible refine ((State.report_within _ _).mail (by decide)).then ?_
    | with_reducible refine (State.noteQuiet_mail _).then ?_
    | with_reducible refine (State.notePending_mail _).then ?_
    | split))

theorem State.takeAnswer_mail (s : State) (k : Nat) (sch : Nat) (started : Bool) :
    mailKept s (s.takeAnswer k sch started) := by
  unfold State.takeAnswer
  try dsimp only
  repeat' split
  all_goals (repeat (first
    | with_reducible exact mailKept.refl _
    | with_reducible refine (State.send_mail _ _).then ?_
    | with_reducible refine ((State.setContingency_within _ _ _).mail (by decide)).then ?_
    | with_reducible refine (State.noteQuiet_mail _).then ?_
    | split))

theorem State.poolChanged_mail (s : State) (old : Vector (Option Action) 96) :
    mailKept s (s.poolChanged old) := by
  unfold State.poolChanged
  try dsimp only
  repeat' split
  all_goals (repeat (first
    | with_reducible exact mailKept.refl _
    | with_reducible refine (State.refreshStaged_mail _).then ?_
    | with_reducible refine (State.sendAll_mail _ _).then ?_
    | split))

theorem State.actionEvent_mail (s : State) (a : Nat) (x : Action) :
    mailKept s (s.actionEvent a x) := by
  unfold State.actionEvent
  try dsimp only
  repeat' split
  all_goals (repeat (first
    | with_reducible exact mailKept.refl _
    | with_reducible refine (State.poolChanged_mail _ _).then ?_
    | with_reducible refine ((State.setAction_within _ _ _).mail (by decide)).then ?_
    | split))

theorem State.commitAction_mail {s t : State} {a sch serial : Nat}
    (h : s.commitAction a sch serial = some t) : mailKept s t := by
  unfold State.commitAction at h
  split at h
  · exact absurd h (by simp)
  · split at h
    · obtain rfl := Option.some.inj h
      exact State.actionEvent_mail _ _ _
    · exact absurd h (by simp)

theorem State.applyOutcome_mail (s : State) (a : Nat) (serial : Nat) (f : FinalState) (m : Mode) :
    mailKept s (s.applyOutcome a serial f m) := by
  unfold State.applyOutcome
  try dsimp only
  repeat' split
  all_goals (repeat (first
    | with_reducible exact mailKept.refl _
    | with_reducible refine (State.actionEvent_mail _ _ _).then ?_
    | split))

theorem State.offerStray_mail {s t : State} {site serial output result a : Nat}
    (h : s.offerStray site serial output result = some (a, t)) :
    mailKept s t := by
  unfold State.offerStray at h
  split at h
  · split at h
    · exact absurd h (by simp)
    · split at h
      · exact absurd h (by simp)
      · obtain ⟨-, rfl⟩ := Prod.mk.inj (Option.some.inj h)
        exact State.actionEvent_mail _ _ _
  · exact absurd h (by simp)

theorem blockControl_mail (a : Nat) (y10 : ActionDef) (x : Action) (s : State) :
    mailKept s (blockControl a y10 x s).state := by
  unfold blockControl
  try dsimp only [Answer.refuse, Answer.done]
  repeat' split
  all_goals (repeat (first
    | with_reducible exact mailKept.refl _
    | with_reducible refine ((actionDone_within _ _).mail (by decide)).then ?_
    | with_reducible refine (State.actionEvent_mail _ _ _).then ?_
    | split))

theorem restoreControl_mail (a : Nat) (d : ActionDef) (x : Action) (s : State) :
    mailKept s (restoreControl a d x s).state := by
  unfold restoreControl
  try dsimp only [Answer.refuse, Answer.done]
  repeat' split
  all_goals (repeat (first
    | with_reducible exact mailKept.refl _
    | with_reducible refine ((actionDone_within _ _).mail (by decide)).then ?_
    | with_reducible refine (State.actionEvent_mail _ _ _).then ?_
    | split))

theorem State.dropRoutine_mail (s : State) (sch : Nat) :
    mailKept s (s.dropRoutine sch) := by
  unfold State.dropRoutine
  try dsimp only
  repeat' split
  all_goals (repeat (first
    | with_reducible exact mailKept.refl _
    | with_reducible refine (State.startNext_mail _).then ?_
    | with_reducible refine ((State.setEngine_within _ _).mail (by decide)).then ?_
    | exact mailKept.of_eq (by simp)
    | split))

theorem State.takeRescan_mail (s : State) (sch : Nat) :
    mailKept s (s.takeRescan sch) := by
  unfold State.takeRescan
  try dsimp only
  repeat' split
  all_goals (repeat (first
    | with_reducible exact mailKept.refl _
    | with_reducible refine ((State.setHeld_within _ _ _).mail (by decide)).then ?_
    | with_reducible refine (State.queueScan_mail _ _ _).then ?_
    | split))

theorem State.planStep_mail (s : State) (p : PlanScan) :
    mailKept s (s.planStep p) := by
  unfold State.planStep
  try dsimp only
  repeat' split
  all_goals (repeat (first
    | with_reducible exact mailKept.refl _
    | with_reducible refine ((State.setEngine_within _ _).mail (by decide)).then ?_
    | with_reducible refine (State.finishPlan_mail _ _ _).then ?_
    | exact mailKept.of_eq (by simp)
    | split))

theorem State.commitReset_mail (s : State) (c : Nat) :
    mailKept s (s.commitReset c) := by
  unfold State.commitReset
  try dsimp only
  repeat' split
  all_goals (repeat (first
    | with_reducible exact mailKept.refl _
    | with_reducible refine (State.resetWorking_mail _ _).then ?_
    | with_reducible refine ((State.reportChannel_within _ _ _ _ _).mail (by decide)).then ?_
    | with_reducible refine ((State.enterAcquiring_within _ _).mail (by decide)).then ?_
    | with_reducible refine ((State.noteChannel_within _ _ _ _).mail (by decide)).then ?_
    | with_reducible refine ((State.setChannel_within _ _ _).mail (by decide)).then ?_
    | split))

theorem State.carryChannel_mail (s : State) (old : Bank) (c : Nat) (before : List Nat) :
    mailKept s (s.carryChannel old c before) := by
  unfold State.carryChannel
  try dsimp only
  repeat' split
  all_goals (repeat (first
    | with_reducible exact mailKept.refl _
    | with_reducible refine ((State.keepChannel_within _ _ _).mail (by decide)).then ?_
    | with_reducible refine (State.commitReset_mail _ _).then ?_
    | split))

theorem State.carrySite_mail (s : State) (old : Bank) (heard : List Nat) (site : Nat) :
    mailKept s (s.carrySite old heard site) := by
  unfold State.carrySite
  try dsimp only
  repeat' split
  all_goals (repeat (first
    | with_reducible exact mailKept.refl _
    | with_reducible refine ((State.setSite_within _ _ _).mail (by decide)).then ?_
    | with_reducible refine (State.refreshReach_mail _ _ _).then ?_
    | with_reducible refine ((State.setRoute_within _ _ _ _).mail (by decide)).then ?_
    | with_reducible refine ((State.judgeRoute_within _ _ _).mail (by decide)).then ?_
    | split))

theorem State.carryUnits_mail (s : State) (old : Bank) :
    mailKept s (s.carryUnits old) := by
  unfold State.carryUnits
  try dsimp only
  repeat' split
  all_goals (repeat (first
    | with_reducible exact mailKept.refl _
    | with_reducible refine (State.carryChannel_mail _ _ _ _).then ?_
    | with_reducible refine (State.carrySite_mail _ _ _ _).then ?_
    | with_reducible refine (mailKept.foldl (fun _ _ => State.carryChannel_mail _ _ _ _) _ _).then ?_
    | with_reducible refine (mailKept.foldl (fun _ _ => State.carrySite_mail _ _ _ _) _ _).then ?_
    | split))

theorem State.commitScheme_mail (old : Vector (Option Scheme) 16) (prepared : Vector (Option EvalRec) 16) (s : State) (i : Nat) :
    mailKept s (State.commitScheme old prepared s i) := by
  unfold State.commitScheme
  try dsimp only
  repeat' split
  all_goals (repeat (first
    | with_reducible exact mailKept.refl _
    | with_reducible refine ((State.setScheme_within _ _ _).mail (by decide)).then ?_
    | with_reducible refine ((State.reportArm_within _ _ _ _ _).mail (by decide)).then ?_
    | with_reducible refine (State.send_mail _ _).then ?_
    | exact mailKept.of_eq (by simp)
    | split))

theorem State.carrySchemes_mail (s : State) :
    mailKept s (s.carrySchemes) := by
  unfold State.carrySchemes
  dsimp only
  refine mailKept.trans (t := (List.range 16).foldl
    (State.commitScheme s.evaluator.schemes s.evaluator.prepared) s) ?_ (mailKept.of_eq (by simp))
  exact (mailKept.foldl (fun _ _ => State.commitScheme_mail _ _ _ _) _ _).then
    (mailKept.refl _)

theorem State.endOrder_mail (s : State) (o : Order) (f : FinalState) (late : Bool) (mismatch : Bool) :
    mailKept s (s.endOrder o f late mismatch) := by
  unfold State.endOrder
  try dsimp only
  repeat' split
  all_goals (repeat (first
    | with_reducible exact mailKept.refl _
    | with_reducible refine (State.send_mail _ _).then ?_
    | with_reducible refine ((State.updateOrder_within _ _ _).mail (by decide)).then ?_
    | with_reducible refine (State.applyOutcome_mail _ _ _ _ _).then ?_
    | split))

theorem State.requestCover_mail (s : State) (sch : Nat) :
    mailKept s (s.requestCover sch) := by
  unfold State.requestCover
  try dsimp only
  repeat' split
  all_goals (repeat (first
    | with_reducible exact mailKept.refl _
    | with_reducible refine (State.send_mail _ _).then ?_
    | with_reducible refine ((State.updateExec_within _ _ _).mail (by decide)).then ?_
    | split))

theorem State.coverAfterFailure_mail (s : State) (sch : Nat) :
    mailKept s (s.coverAfterFailure sch) := by
  unfold State.coverAfterFailure
  try dsimp only
  repeat' split
  all_goals (repeat (first
    | with_reducible exact mailKept.refl _
    | with_reducible refine (State.requestCover_mail _ _).then ?_
    | with_reducible refine ((State.updateExec_within _ _ _).mail (by decide)).then ?_
    | split))

theorem State.failOrder_mail (s : State) (o : Order) :
    mailKept s (s.failOrder o) := by
  unfold State.failOrder
  try dsimp only
  repeat' split
  all_goals (repeat (first
    | with_reducible exact mailKept.refl _
    | with_reducible refine (State.endOrder_mail _ _ _ _ _).then ?_
    | with_reducible refine ((State.updateExec_within _ _ _).mail (by decide)).then ?_
    | split))

theorem State.endExecution_mail (s : State) (sch : Nat) (x : Exec) (outcome : ExecOutcome) :
    mailKept s (s.endExecution sch x outcome) := by
  unfold State.endExecution
  dsimp only
  refine mailKept.trans (t := State.sendAll (((s.ordersOf sch).map (orderReport (decide (x.mode = .test))) ++
    [s.endReport sch x outcome]).foldl State.report s) [.schemeEnd sch x.mode, .execEnd x.contingency sch])
    ?_ (mailKept.of_eq (by simp))
  refine (State.sendAll_mail _ _).then ?_
  exact (mailKept.foldl (fun _ _ => (State.report_within _ _).mail (by decide)) _ _).then (mailKept.refl _)

theorem State.judgeEnd_mail (s : State) (sch : Nat) :
    mailKept s (s.judgeEnd sch) := by
  unfold State.judgeEnd
  try dsimp only
  repeat' split
  all_goals (repeat (first
    | with_reducible exact mailKept.refl _
    | with_reducible refine (State.endExecution_mail _ _ _ _).then ?_
    | split))

theorem State.failAndFollow_mail (s : State) (o : Order) :
    mailKept s (s.failAndFollow o) := by
  unfold State.failAndFollow
  try dsimp only
  repeat' split
  all_goals (repeat (first
    | with_reducible exact mailKept.refl _
    | with_reducible refine (State.judgeEnd_mail _ _).then ?_
    | with_reducible refine (State.coverAfterFailure_mail _ _).then ?_
    | with_reducible refine (State.failOrder_mail _ _).then ?_
    | split))

theorem State.retry_failOrder_mail (s : State) (o : Order) :
    mailKept s (s.retry o State.failOrder) := by
  unfold State.retry
  dsimp only
  repeat' split
  all_goals (repeat (first
    | with_reducible exact mailKept.refl _
    | with_reducible refine (State.failOrder_mail _ _).then ?_
    | with_reducible refine ((State.updateOrder_within _ _ _).mail (by decide)).then ?_
    | (rename_i h; refine ((State.offer_within' h).mail (by decide)).then ?_)))

theorem State.retry_failAndFollow_mail (s : State) (o : Order) :
    mailKept s (s.retry o State.failAndFollow) := by
  unfold State.retry
  dsimp only
  repeat' split
  all_goals (repeat (first
    | with_reducible exact mailKept.refl _
    | with_reducible refine (State.failAndFollow_mail _ _).then ?_
    | with_reducible refine ((State.updateOrder_within _ _ _).mail (by decide)).then ?_
    | (rename_i h; refine ((State.offer_within' h).mail (by decide)).then ?_)))

theorem State.attemptLost_mail (s : State) (o : Order) :
    mailKept s (s.attemptLost o) := by
  unfold State.attemptLost
  repeat' split
  all_goals first
    | exact mailKept.refl _
    | exact (State.retry_failAndFollow_mail _ _).then (mailKept.refl _)
    | exact (State.failAndFollow_mail _ _).then (mailKept.refl _)

theorem State.createOrder_mail (s : State) (o : Order) :
    mailKept s (s.createOrder o) := by
  unfold State.createOrder
  dsimp only
  split
  all_goals rename_i h
  · refine ((State.offer_within' h).mail (by decide)).then ?_
    refine (State.send_mail _ _).then ?_
    exact mailKept.of_eq (by simp)
  · refine (State.retry_failOrder_mail _ _).then ?_
    refine ((State.offer_within' h).mail (by decide)).then ?_
    refine (State.send_mail _ _).then ?_
    exact mailKept.of_eq (by simp)

theorem State.walkEntry_mail (sch : Nat) (origin : OrderOrigin) (s : State) (e : SelEntry) :
    mailKept s (State.walkEntry sch origin s e) := by
  unfold State.walkEntry
  split
  · exact ((State.updateExec_within _ _ _).mail (by decide)).then (mailKept.refl _)
  · split
    · rename_i h _
      split
      · exact ((State.updateExec_within _ _ _).mail (by decide)).then (mailKept.refl _)
      · exact (State.createOrder_mail _ _).then
          ((State.commitAction_mail h).then (mailKept.refl _))
    · exact ((State.updateExec_within _ _ _).mail (by decide)).then (mailKept.refl _)

theorem State.walkSelection_mail (s : State) (sch : Nat) (d : SchemeDef) (es : List SelEntry) :
    mailKept s (s.walkSelection sch d es) := by
  unfold State.walkSelection
  try dsimp only
  repeat' split
  all_goals (repeat (first
    | with_reducible exact mailKept.refl _
    | with_reducible refine (State.walkEntry_mail _ _ _ _).then ?_
    | with_reducible refine (mailKept.foldl (fun _ _ => State.walkEntry_mail _ _ _ _) _ _).then ?_
    | split))

theorem State.coverAfterStart_mail (s : State) (sch : Nat) :
    mailKept s (s.coverAfterStart sch) := by
  unfold State.coverAfterStart
  try dsimp only
  repeat' split
  all_goals (repeat (first
    | with_reducible exact mailKept.refl _
    | with_reducible refine (State.requestCover_mail _ _).then ?_
    | split))

theorem State.startExecution_mail (s : State) (k : Nat) (sch : Nat) (detect : Time) (degraded : Bool) (d : SchemeDef) (x : Scheme) :
    mailKept s (s.startExecution k sch detect degraded d x) := by
  unfold State.startExecution
  try dsimp only
  repeat' split
  all_goals (repeat (first
    | with_reducible exact mailKept.refl _
    | with_reducible refine ((State.setExec_within _ _ _).mail (by decide)).then ?_
    | with_reducible refine (State.enterExecuting_mail _ _ _).then ?_
    | with_reducible refine (State.send_mail _ _).then ?_
    | with_reducible refine ((State.report_within _ _).mail (by decide)).then ?_
    | with_reducible refine (State.judgeEnd_mail _ _).then ?_
    | with_reducible refine (State.coverAfterStart_mail _ _).then ?_
    | with_reducible refine (State.walkSelection_mail _ _ _ _).then ?_
    | split))

theorem State.confirmOrder_mail (s : State) (o : Order) (result : Nat) :
    mailKept s (s.confirmOrder o result) := by
  unfold State.confirmOrder
  try dsimp only
  repeat' split
  all_goals (repeat (first
    | with_reducible exact mailKept.refl _
    | with_reducible refine ((State.withdrawFrames_within _ _).mail (by decide)).then ?_
    | with_reducible refine (State.judgeEnd_mail _ _).then ?_
    | with_reducible refine (State.endOrder_mail _ _ _ _ _).then ?_
    | split))

theorem State.refuseOrder_mail (s : State) (o : Order) :
    mailKept s (s.refuseOrder o) := by
  unfold State.refuseOrder
  try dsimp only
  repeat' split
  all_goals (repeat (first
    | with_reducible exact mailKept.refl _
    | with_reducible refine (State.failAndFollow_mail _ _).then ?_
    | with_reducible refine ((State.withdrawFrames_within _ _).mail (by decide)).then ?_
    | split))

theorem State.confirmLate_mail (s : State) (o : Order) (result : Nat) :
    mailKept s (s.confirmLate o result) := by
  unfold State.confirmLate
  try dsimp only
  repeat' split
  all_goals (repeat (first
    | with_reducible exact mailKept.refl _
    | with_reducible refine ((State.updateOrder_within _ _ _).mail (by decide)).then ?_
    | with_reducible refine (State.judgeEnd_mail _ _).then ?_
    | with_reducible refine (State.send_mail _ _).then ?_
    | split))

theorem State.takeAck_mail (s : State) (o : Order) (result : Nat) :
    mailKept s (s.takeAck o result) := by
  unfold State.takeAck
  try dsimp only
  repeat' split
  all_goals (repeat (first
    | with_reducible exact mailKept.refl _
    | with_reducible refine (State.refuseOrder_mail _ _).then ?_
    | with_reducible refine (State.confirmOrder_mail _ _ _).then ?_
    | with_reducible refine (State.confirmLate_mail _ _ _).then ?_
    | split))

theorem State.takeStray_mail (s : State) (site : Nat) (serial : Nat) (output : Nat) (result : Nat) :
    mailKept s (s.takeStray site serial output result) := by
  unfold State.takeStray
  split
  · exact mailKept.refl _
  · rename_i h
    exact ((State.report_within _ _).mail (by decide)).then
      ((State.offerStray_mail h).then (mailKept.refl _))

theorem State.loseAttempt_mail (s : State) (serial : Nat) :
    mailKept s (s.loseAttempt serial) := by
  unfold State.loseAttempt
  try dsimp only
  repeat' split
  all_goals (repeat (first
    | with_reducible exact mailKept.refl _
    | with_reducible refine (State.attemptLost_mail _ _).then ?_
    | split))

theorem State.coverEntry_mail (sch : Nat) (s : State) (e : SelEntry) :
    mailKept s (State.coverEntry sch s e) := by
  unfold State.coverEntry
  try dsimp only
  repeat' split
  all_goals (repeat (first
    | with_reducible exact mailKept.refl _
    | with_reducible refine (State.walkEntry_mail _ _ _ _).then ?_
    | with_reducible refine ((State.updateExec_within _ _ _).mail (by decide)).then ?_
    | split))

theorem State.afterHandover_mail (s : State) (sch : Nat) (created : Bool) :
    mailKept s (s.afterHandover sch created) := by
  unfold State.afterHandover
  try dsimp only
  repeat' split
  all_goals (repeat (first
    | with_reducible exact mailKept.refl _
    | with_reducible refine ((State.updateExec_within _ _ _).mail (by decide)).then ?_
    | with_reducible refine (State.requestCover_mail _ _).then ?_
    | split))

theorem State.expireOrder_mail (s : State) (o : Order) :
    mailKept s (s.expireOrder o) := by
  unfold State.expireOrder
  try dsimp only
  repeat' split
  all_goals (repeat (first
    | with_reducible exact mailKept.refl _
    | with_reducible refine (State.endOrder_mail _ _ _ _ _).then ?_
    | with_reducible refine ((State.withdrawFrames_within _ _).mail (by decide)).then ?_
    | split))

theorem State.restartBanks_mail (s : State) :
    mailKept s (s.restartBanks) := by
  unfold State.restartBanks
  try dsimp only
  repeat' split
  all_goals (repeat (first
    | with_reducible exact mailKept.refl _
    | with_reducible refine (State.cancelSwitch_mail _ _).then ?_
    | split))

theorem State.restartPool_mail (s : State) :
    mailKept s (s.restartPool) := by
  unfold State.restartPool
  try dsimp only
  repeat' split
  all_goals (repeat (first
    | with_reducible exact mailKept.refl _
    | with_reducible refine (State.poolChanged_mail _ _).then ?_
    | exact mailKept.of_eq (by simp)
    | split))

theorem State.restartScheme_mail (s : State) (i : Nat) :
    mailKept s (s.restartScheme i) := by
  unfold State.restartScheme
  try dsimp only
  repeat' split
  all_goals (repeat (first
    | with_reducible exact mailKept.refl _
    | with_reducible refine ((State.setScheme_within _ _ _).mail (by decide)).then ?_
    | with_reducible refine (State.writeScheme_mail _ _ _ _ _).then ?_
    | with_reducible refine (State.send_mail _ _).then ?_
    | split))

theorem State.restartEvaluator_mail (s : State) :
    mailKept s (s.restartEvaluator) := by
  unfold State.restartEvaluator
  try dsimp only
  repeat' split
  all_goals (repeat (first
    | with_reducible exact mailKept.refl _
    | with_reducible refine (State.refreshAlert_mail _).then ?_
    | with_reducible refine (State.restartScheme_mail _ _).then ?_
    | with_reducible refine (mailKept.foldl (fun _ _ => State.restartScheme_mail _ _) _ _).then ?_
    | split))

/-! ## What has been sent of one kind of message -/

theorem messagesSent.refl (p : Msg → Bool) (s : State) : messagesSent p [] s s := (List.append_nil _).symm

theorem messagesSent.trans {p : Msg → Bool} {ms ns : List Msg} {s t u : State} (h : messagesSent p ms s t)
    (k : messagesSent p ns t u) : messagesSent p (ms ++ ns) s u := by
  unfold messagesSent at *
  rw [k, h, List.append_assoc]

/-- An operation that sends none of the kind, before others. -/
theorem messagesSent.then {p : Msg → Bool} {ms : List Msg} {s t u : State} (k : messagesSent p ms t u)
    (h : messagesSent p [] s t) : messagesSent p ms s u := h.trans k

/-- An operation that sends none of the kind, after others. -/
theorem messagesSent.after {p : Msg → Bool} {ms : List Msg} {s t u : State} (k : messagesSent p [] t u)
    (h : messagesSent p ms s t) : messagesSent p ms s u := by
  simpa using h.trans k

theorem messagesSent.of_eq {p : Msg → Bool} {s t : State} (h : t.inflight = s.inflight) : messagesSent p [] s t := by
  unfold messagesSent
  rw [h, List.append_nil]

/-- An operation that does not change the messages sends none. -/
theorem Within.sends {ps : List Part} {s t : State} (h : Within ps s t) (hp : Part.messages ∉ ps) (p : Msg → Bool) :
    messagesSent p [] s t := .of_eq (h.same .messages hp)

theorem State.send_sends (p : Msg → Bool) (s : State) (m : Msg) :
    messagesSent p (if p m = true then [m] else []) s (s.send m) := by
  unfold messagesSent
  rw [State.send_inflight, List.filter_append]
  split <;> simp_all

theorem State.sendAll_sends (p : Msg → Bool) (s : State) (ms : List Msg) :
    messagesSent p (ms.filter p) s (s.sendAll ms) := List.filter_append ..

theorem State.send_other {p : Msg → Bool} (s : State) {m : Msg} (h : p m = false) :
    messagesSent p [] s (s.send m) := by
  simpa [h] using s.send_sends p m

theorem State.withdraw_other {p q : Msg → Bool} (s : State) (h : ∀ m, q m = true → p m = false) :
    messagesSent p [] s (s.withdraw q) := by
  unfold messagesSent State.withdraw
  rw [List.append_nil, List.filter_filter]
  refine List.filter_congr (fun m _ => ?_)
  cases hq : q m with
  | true => simp [h m hq]
  | false => simp

/-- A message of another kind that has been taken. -/
theorem State.without_other {p lane : Msg → Bool} {s : State} {m : Msg} (h : s.isFirst lane m) (hm : p m = false) :
    messagesSent p [] s (s.without lane) := by
  unfold messagesSent State.without
  rw [List.append_nil]
  unfold State.isFirst at h
  dsimp only
  revert h
  induction s.inflight with
  | nil => intro _; rfl
  | cons a l ih =>
    intro h
    cases ha : lane a with
    | true =>
      obtain rfl : a = m := by simpa [List.find?_cons, ha] using h
      simp [ha, hm]
    | false =>
      rw [List.eraseP_cons_of_neg (by simp [ha]), List.filter_cons, List.filter_cons,
        ih (by simpa [List.find?_cons, ha] using h)]

/-! A change of a scheme's carry outcome sends and withdraws messages of the preparation alone. -/

section
variable {p : Msg → Bool} (hp : ∀ m : Msg, m.ofPreparation = true → p m = false)
include hp

theorem State.startNext_sends (s : State) : messagesSent p [] s s.startNext := by
  unfold State.startNext
  dsimp only
  repeat' split
  all_goals first
    | exact .of_eq rfl
    | (unfold State.sendCover
       split
       · exact .of_eq rfl
       · exact (State.send_other _ (hp _ rfl)).then (.of_eq rfl))

theorem State.noteShadow_sends (s : State) : messagesSent p [] s s.noteShadow := by
  unfold State.noteShadow
  split
  · exact State.send_other _ (hp _ rfl)
  · exact .refl _ _

theorem State.queueScan_sends (s : State) (k : PlanKind) (i : Nat) : messagesSent p [] s (s.queueScan k i) := by
  unfold State.queueScan
  dsimp only
  repeat' split
  all_goals first
    | exact .of_eq rfl
    | exact (State.startNext_sends hp _).then (.of_eq rfl)

theorem State.dropShadow_sends (s : State) (i : Nat) : messagesSent p [] s (s.dropShadow i) := by
  unfold State.dropShadow
  dsimp only
  refine (State.noteShadow_sends hp _).then ((State.startNext_sends hp _).then ?_)
  refine (State.withdraw_other _ (fun m hm => ?_)).then (.of_eq rfl)
  obtain rfl := of_decide_eq_true hm
  exact hp _ rfl

theorem State.setPrepared_sends (s : State) (i : Nat) (evaluated : Bool) (r : Option EvalRec) (outcome : Reported) :
    messagesSent p [] s (s.setPrepared i evaluated r outcome) := by
  unfold State.setPrepared
  dsimp only
  repeat' split
  all_goals first
    | exact .of_eq rfl
    | exact (State.queueScan_sends hp _ _ _).then (.of_eq rfl)
    | exact (State.dropShadow_sends hp _ _).then (.of_eq rfl)
    | exact (State.send_other _ (hp _ rfl)).then (.of_eq rfl)

theorem State.refreshCarry_sends (s : State) (i : Nat) : messagesSent p [] s (s.refreshCarry i) := by
  unfold State.refreshCarry State.prepareScheme
  dsimp only
  repeat' split
  all_goals first
    | exact .refl _ _
    | exact State.setPrepared_sends hp _ _ _ _ _

end

end Sys2Proof.Machine
end

