-- ==== Sys2Proof/Laws/Preparation.lean ====
section
/-! SUPPORT. What the operations of a preparation leave of the shadow work of each scheme, and what a carry outcome
that is determined again leaves of the preparation (R163). -/

namespace Sys2Proof.Machine

/-! ## Messages of the Engine -/

/-- The start of the next piece of work sends no requeue and takes none back. -/
theorem State.startNext_requeues (s : State) (i : Nat) :
    s.startNext.inflight.count (.shadowRequeue i) = s.inflight.count (.shadowRequeue i) := by
  unfold State.startNext State.sendCover
  dsimp only
  repeat' split
  all_goals simp [State.setEngine, State.send]

theorem State.noteShadow_requeues (s : State) (i : Nat) :
    s.noteShadow.inflight.count (.shadowRequeue i) = s.inflight.count (.shadowRequeue i) := by
  unfold State.noteShadow
  split <;> simp [State.send]

theorem State.noteShadow_engine (s : State) : s.noteShadow.engine = s.engine := by
  unfold State.noteShadow
  split <;> rfl

/-- Where no shadow work is left while PREPARING, the Bank Store has been told or is being told (R165). -/
theorem State.noteShadow_complete (s : State) (h : s.banks.switch = .preparing)
    (hd : s.noteShadow.shadowDone = true) : .shadowComplete ∈ s.noteShadow.inflight := by
  have done : s.noteShadow.shadowDone = s.shadowDone := by
    unfold State.noteShadow
    split
    · simp [State.shadowDone, State.inFlight, State.send, Msg.isShadowRequeue]
    · rfl
  rw [done] at hd
  unfold State.noteShadow
  by_cases hm : s.inFlight (fun m => decide (m = .shadowComplete)) = true
  · simp only [hm]
    simpa [State.inFlight] using hm
  · simp [h, hd, hm, State.send]

theorem State.queueScan_requeues (s : State) (k : PlanKind) (j i : Nat) :
    (s.queueScan k j).inflight.count (.shadowRequeue i) = s.inflight.count (.shadowRequeue i) := by
  unfold State.queueScan
  dsimp only
  repeat' split
  · rfl
  · rfl
  · rfl
  · exact State.startNext_requeues _ _

/-! ## The shadow work of one scheme (R163) -/

/-- The shadow work of scheme `i` is removed, with its shadow selection and its requeues; all else stands. -/
theorem State.dropShadow_spec (s : State) (i : Nat) :
    let t := s.dropShadow i
    (t.banks = s.banks ∧ t.evaluator = s.evaluator ∧ t.views = s.views ∧ t.pool = s.pool) ∧
    (t.engine.shadow = put s.engine.shadow i none ∧ t.engine.known = s.engine.known ∧
      t.engine.held = s.engine.held) ∧
    (∀ c j, t.engine.hasWork c j = true ↔ s.engine.hasWork c j = true ∧ ¬(c = .shadow ∧ j = i)) ∧
    t.inflight.count (.shadowRequeue i) = 0 ∧
    (s.banks.switch = .preparing → t.shadowDone = true → .shadowComplete ∈ t.inflight) := by
  intro t
  have ht : t = ((((s.setEngine { s.engine.dropWork .shadow i with
      shadow := put (s.engine.dropWork .shadow i).shadow i none }).withdraw
        (fun m => decide (m = .shadowRequeue i))).startNext).noteShadow) := rfl
  rw [ht]
  generalize hu : ((s.setEngine { s.engine.dropWork .shadow i with
      shadow := put (s.engine.dropWork .shadow i).shadow i none }).withdraw
        (fun m => decide (m = .shadowRequeue i))) = u
  have stands := u.startNext_stands
  have outside : ∀ v : State, (v.startNext.noteShadow.banks = v.banks ∧ v.startNext.noteShadow.evaluator = v.evaluator ∧
      v.startNext.noteShadow.views = v.views ∧ v.startNext.noteShadow.pool = v.pool) ∧
      v.startNext.banks = v.banks := by
    intro v
    unfold State.noteShadow State.startNext State.sendCover
    dsimp only
    refine ⟨?_, ?_⟩ <;> repeat' split
    all_goals first | rfl | exact ⟨rfl, rfl, rfl, rfl⟩
  refine ⟨?_, ?_, fun c j => ?_, ?_, fun h hd => ?_⟩
  · have := (outside u).1
    subst hu
    exact this
  · rw [State.noteShadow_engine, stands.1, stands.2.1, stands.2.2.1]
    subst hu
    exact ⟨rfl, rfl, rfl⟩
  · rw [State.noteShadow_engine, State.startNext_hasWork, ← Engine.dropWork_hasWork]
    subst hu
    rfl
  · rw [State.noteShadow_requeues, State.startNext_requeues]
    subst hu
    simp [State.withdraw, List.count_eq_zero]
  · refine State.noteShadow_complete _ ?_ hd
    rw [(outside u).2]
    subst hu
    exact h

/-! ## Carry outcomes (R163) -/

/-- A table after a write. -/
theorem rec?_put {α : Type} {n : Nat} (v : Vector (Option α) n) (i j : Nat) (x : Option α) (hi : i < n) :
    rec? (put v i x) j = if i = j then x else rec? v j := by
  by_cases e : i = j
  · subst e
    simp [rec?, put, hi]
  · simp [rec?, put, e]

theorem State.carriesPlan_iff (s : State) (i : Nat) : s.carriesPlan i = true ↔ s.plans i := by
  unfold State.carriesPlan State.plans
  cases rec? s.banks.carry i with
  | none => simp
  | some r =>
    cases r with
    | off => simp [Reported.isPlanned]
    | on a => cases a <;> simp [Reported.isPlanned, ArmState.isPlanned]

/-- The state with a prepared record and a carry outcome of scheme `i`, before its shadow work follows. -/
def State.withOutcome (s : State) (i : Nat) (r : Option EvalRec) (outcome : Reported) : State :=
  { s with
    evaluator := { s.evaluator with prepared := put s.evaluator.prepared i r }
    banks := { s.banks with carry := put s.banks.carry i (some outcome) } }

/-- The shadow work of a scheme follows its new outcome in one of four ways (R50, R163; log 53). -/
theorem State.setPrepared_cases (s : State) (i : Nat) (evaluated : Bool) (r : Option EvalRec) (outcome : Reported) :
    let u := s.withOutcome i r outcome
    let t := s.setPrepared i evaluated r outcome
    (outcome.isPlanned = true ∧ s.carriesPlan i = false ∧ t = u.queueScan .shadow i) ∨
    (outcome.isPlanned = false ∧ s.carriesPlan i = true ∧ t = u.dropShadow i) ∨
    (outcome.isPlanned = s.carriesPlan i ∧
      t = if (evaluated || s.carriesPlan i) && s.preparedDiffers i r outcome then u.send (.shadowRequeue i) else u) := by
  unfold State.setPrepared State.withOutcome
  dsimp only
  cases outcome.isPlanned <;> cases s.carriesPlan i <;> simp

/-- What a new prepared record and carry outcome of scheme `i` leave. -/
theorem State.setPrepared_spec (s : State) (i : Nat) (evaluated : Bool) (r : Option EvalRec) (outcome : Reported)
    (hi : i < 16) (hp : s.banks.switch = .preparing) :
    let t := s.setPrepared i evaluated r outcome
    (t.views = s.views ∧ t.pool.staged = s.pool.staged ∧ t.engine.known = s.engine.known ∧
      t.engine.held = s.engine.held) ∧
    t.evaluator.prepared = put s.evaluator.prepared i r ∧ t.banks.carry = put s.banks.carry i (some outcome) ∧
    (∀ j, j ≠ i → rec? t.engine.shadow j = rec? s.engine.shadow j) ∧
    (∀ c j, ¬(c = .shadow ∧ j = i) → t.engine.hasWork c j = s.engine.hasWork c j) ∧
    s.shadowFollowed t i ∧
    (s.plans i → ¬t.plans i → t.inflight.count (.shadowRequeue i) = 0) ∧
    ((s.plans i ↔ t.plans i) → t.inflight.count (.shadowRequeue i) = s.inflight.count (.shadowRequeue i) +
      if (evaluated || s.carriesPlan i) && s.preparedDiffers i r outcome then 1 else 0) := by
  intro t
  have carry : t.banks.carry = put s.banks.carry i (some outcome) → (t.plans i ↔ outcome.isPlanned = true) := by
    intro h
    rw [← State.carriesPlan_iff]
    simp [State.carriesPlan, h, rec?_put _ _ _ _ hi]
  have before : s.plans i ↔ s.carriesPlan i = true := (s.carriesPlan_iff i).symm
  rcases s.setPrepared_cases i evaluated r outcome with ⟨ho, hw, ht⟩ | ⟨ho, hw, ht⟩ | ⟨ho, ht⟩
  · change t = _ at ht
    have stands := (s.withOutcome i r outcome).queueScan_stands .shadow i
    have prep := ((s.withOutcome i r outcome).queueScan_within .shadow i).same .preparation (by decide)
    have work := (s.withOutcome i r outcome).queueScan_hasWork .shadow i
    rw [← ht] at stands prep work
    have hc := carry prep.1
    refine ⟨⟨prep.2.2.2.2, prep.2.2.1, stands.1, stands.2.1⟩, prep.2.1, prep.1, fun j _ => by rw [stands.2.2.1]; rfl,
      fun c j hj => ?_, ⟨fun _ _ => (work _ _).2 (.inl ⟨rfl, rfl⟩), fun h => by simp_all,
        fun _ => by rw [stands.2.2.1]; rfl⟩, fun h => by simp_all, fun h => by simp_all⟩
    rw [Bool.eq_iff_iff, work]
    exact ⟨fun h => h.resolve_left hj, .inr⟩
  · change t = _ at ht
    have drop := (s.withOutcome i r outcome).dropShadow_spec i
    rw [← ht] at drop
    obtain ⟨⟨db, de, dv, dp⟩, ⟨ds, dk, dh⟩, work, none, done⟩ := drop
    have hc := carry (by rw [db]; rfl)
    refine ⟨⟨dv, by rw [dp]; rfl, dk, dh⟩, by rw [de]; rfl, by rw [db]; rfl,
      fun j hj => by rw [ds, rec?_put _ _ _ _ hi, if_neg (Ne.symm hj)]; rfl, fun c j hj => ?_,
      ⟨fun h => by simp_all, fun _ _ => ⟨by rw [ds, rec?_put _ _ _ _ hi, if_pos rfl], ?_, done hp⟩,
        fun h => by simp_all⟩, fun _ _ => none, fun h => by simp_all⟩
    · rw [Bool.eq_iff_iff, work]
      exact ⟨fun h => h.1, fun h => ⟨h, hj⟩⟩
    · rw [← Bool.not_eq_true, work]
      exact fun h => h.2 ⟨rfl, rfl⟩
  · change t = _ at ht
    have same : (t.evaluator = (s.withOutcome i r outcome).evaluator ∧ t.banks = (s.withOutcome i r outcome).banks ∧
        t.engine = s.engine ∧ t.views = s.views ∧ t.pool = s.pool) ∧
        t.inflight.count (.shadowRequeue i) = s.inflight.count (.shadowRequeue i) +
          if (evaluated || s.carriesPlan i) && s.preparedDiffers i r outcome then 1 else 0 := by
      rw [ht]
      split
      · exact ⟨⟨rfl, rfl, rfl, rfl, rfl⟩, by simp [State.send, State.withOutcome]⟩
      · exact ⟨⟨rfl, rfl, rfl, rfl, rfl⟩, rfl⟩
    obtain ⟨⟨he, hb, hg, hv, hl⟩, hn⟩ := same
    have hc := carry (by rw [hb]; rfl)
    refine ⟨⟨hv, by rw [hl], by rw [hg], by rw [hg]⟩, by rw [he]; rfl, by rw [hb]; rfl, fun j _ => by rw [hg],
      fun c j _ => by rw [hg], ⟨fun h k => by simp_all, fun h => by simp_all, fun _ => by rw [hg]⟩,
      fun h => by simp_all, fun _ => hn⟩

/-- A staged scheme's carry outcome determined again on the record `r`, made now (`evaluated`) or before. -/
theorem State.setPrepared_follows (s : State) (i : Nat) (d : SchemeDef) (evaluated : Bool) (r : Option EvalRec)
    (outcome : Reported) (hi : i < 16) (hp : s.banks.switch = .preparing)
    (hd : rec? s.banks.staged.scheme i = some d)
    (off : enableAfter d (s.scheme? i) = false → evaluated = false ∧ r = none ∧ outcome = .off)
    (on : enableAfter d (s.scheme? i) = true →
      let e := (rec? s.evaluator.prepared i).getD (evaluate d s.stagedView s.now)
      evaluated = (rec? s.evaluator.prepared i).isNone ∧ r = some e ∧
        outcome = (carryRule d s.now (s.scheme? i) e.q).1) :
    s.carriesFollowed (s.setPrepared i evaluated r outcome) (fun j => j = i) := by
  obtain ⟨stands, hr, hc, shadow, work, follows, gone, sent⟩ := s.setPrepared_spec i evaluated r outcome hi hp
  have live : (s.setPrepared i evaluated r outcome).scheme? i = s.scheme? i :=
    congrArg (rec? · i) ((s.setPrepared_within i evaluated r outcome).same .schemes (by decide))
  have put_at {α : Type} (v : Vector (Option α) 16) (x : Option α) : rec? (put v i x) i = x := by
    rw [rec?_put _ _ _ _ hi, if_pos rfl]
  generalize s.setPrepared i evaluated r outcome = t at *
  refine ⟨fun h => absurd hp h, fun _ => ⟨⟨stands.1, stands.2.1, stands.2.2.1, stands.2.2.2,
    fun j => work .routine j (by simp)⟩, fun j hj => ⟨?_, fun h => ?_⟩⟩⟩
  · rintro rfl e he
    obtain rfl : d = e := Option.some.inj (hd.symm.trans he)
    dsimp only
    rw [live, hr, hc, put_at, put_at]
    refine ⟨fun h => ?_, fun h => ?_, follows, fun h k hn => ?_, gone, fun h hn => ?_⟩
    · exact ⟨(off h).2.1, by rw [(off h).2.2]⟩
    · exact ⟨(on h).2.1, by rw [(on h).2.2]⟩
    · have differs : s.preparedDiffers j r outcome = true := by
        unfold State.preparedDiffers
        cases ho : rec? s.banks.carry j with
        | none => simp [State.plans, ho] at h
        | some old =>
          have : old ≠ outcome := fun z => hn (by rw [ho, z])
          simp [this]
      have := sent ⟨fun _ => k, fun _ => h⟩
      rw [(s.carriesPlan_iff j).2 h, differs] at this
      exact List.count_pos_iff.1 (by simp at this; omega)
    · have both : s.plans j ↔ t.plans j := by
        unfold State.plans
        rw [hc, put_at, hn]
      rw [sent both]
      have none : ((evaluated || s.carriesPlan j) && s.preparedDiffers j r outcome) = false := by
        cases he : enableAfter d (s.scheme? j) with
        | false =>
          have plan : s.carriesPlan j = false := by
            simp [State.carriesPlan, hn, (off he).2.2, Reported.isPlanned]
          simp [(off he).1, plan]
        | true =>
          have same : s.preparedDiffers j r outcome = false := by
            obtain ⟨x, hx⟩ := Option.isSome_iff_exists.1 h
            simp [State.preparedDiffers, hn, (on he).2.1, hx]
          simp [same]
      simp [none]
  · have hne : j ≠ i := by
      rintro rfl
      rcases h with h | h
      · exact h rfl
      · simp [hd] at h
    rw [hr, hc, rec?_put _ _ _ _ hi, rec?_put _ _ _ _ hi, if_neg (Ne.symm hne), if_neg (Ne.symm hne)]
    exact ⟨rfl, rfl, shadow j hne, work .shadow j (fun k => hne k.2)⟩

/-- What follows a change of the live state of scheme `i` in the preparation (R163). -/
theorem State.refreshCarry_follows (s : State) (i : Nat) : s.carriesFollowed (s.refreshCarry i) (fun j => j = i) := by
  unfold State.refreshCarry
  split
  · rename_i hp
    unfold State.prepareScheme
    cases hd : rec? s.banks.staged.scheme i with
    | none =>
      refine ⟨fun h => absurd hp h, fun _ => ⟨⟨rfl, rfl, rfl, rfl, fun _ => rfl⟩, fun j _ => ⟨?_, fun _ => ⟨rfl, rfl, rfl, rfl⟩⟩⟩⟩
      rintro rfl d h
      simp [hd] at h
    | some d =>
      have hi : i < 16 := by
        rcases Nat.lt_or_ge i 16 with hi | hi
        · exact hi
        · simp [rec?, Vector.getElem?_eq_none hi] at hd
      dsimp only
      split
      · rename_i he
        exact s.setPrepared_follows i d _ _ _ hi hp hd (fun h => by simp [he] at h) (fun _ => ⟨rfl, rfl, rfl⟩)
      · rename_i he
        exact s.setPrepared_follows i d _ _ _ hi hp hd (fun _ => ⟨rfl, rfl, rfl⟩) (fun h => absurd h he)
  · rename_i hp
    exact ⟨fun _ => ⟨⟨rfl, rfl, rfl, rfl, rfl⟩, rfl, rfl, rfl, rfl, rfl, rfl⟩, fun h => absurd h hp⟩

end Sys2Proof.Machine
end

