-- ==== Sys2Proof/Laws/Requests.lean ====
section
/-! SUPPORT. How a request is carried out and how a message or a frame is taken, once for every command:
`State.carryOut`, `State.take` and `State.takeFrame` where there is something to take. -/

namespace Sys2Proof.Machine

/-! ## Requests -/

theorem State.nextRequest_of_isNext {s : State} {r : Request} (h : s.isNext r) :
    s.nextRequest r.kind = some r := by
  obtain ⟨h1, h2⟩ := h
  unfold State.nextRequest
  rw [if_neg (by simpa using h2), h1]
  simp

@[simp] theorem Answer.done_reason (ws : List Word) (s : State) : (Answer.done ws s).reason = .none := rfl
@[simp] theorem Answer.done_content (ws : List Word) (s : State) : (Answer.done ws s).content = ws := rfl
@[simp] theorem Answer.done_state (ws : List Word) (s : State) : (Answer.done ws s).state = s := rfl
@[simp] theorem Answer.refuse_reason (r : Reason) (s : State) : (Answer.refuse r s).reason = r := rfl
@[simp] theorem Answer.refuse_content (r : Reason) (s : State) : (Answer.refuse r s).content = [] := rfl
@[simp] theorem Answer.refuse_state (r : Reason) (s : State) : (Answer.refuse r s).state = s := rfl

/-- A request that is this row's and has a length of its form is carried out by the owning rule. -/
theorem State.carryOut_eq {s : State} {r : Request} (h : s.isNext r) {kind : Nat}
    {mine fits : List Word → Bool} {rule : List Word → State → Answer} (hk : r.kind = kind)
    (hm : mine r.words = true) (hf : fits r.words = true) :
    s.carryOut kind mine fits rule =
      (rule r.words s).state.replyTo r (rule r.words s).reason (rule r.words s).content := by
  unfold State.carryOut
  rw [← hk, State.nextRequest_of_isNext h]
  simp [hm, hf]

/-- A request of another length is a BAD_FRAME. -/
theorem State.carryOut_badFrame {s : State} {r : Request} (h : s.isNext r) {kind : Nat}
    {mine fits : List Word → Bool} {rule : List Word → State → Answer} (hk : r.kind = kind)
    (hm : mine r.words = true) (hf : fits r.words = false) :
    s.carryOut kind mine fits rule = s.replyTo r .badFrame [] := by
  unfold State.carryOut
  rw [← hk, State.nextRequest_of_isNext h]
  simp [hm, hf]

/-- The oldest entry at a stage goes on; the others stand. -/
theorem advanceRequest_split {stage next : RequestStage} {before after : List Request} {r : Request}
    (hb : ∀ x ∈ before, x.stage ≠ stage) (hr : r.stage = stage) :
    advanceRequest stage next (before ++ r :: after) = before ++ { r with stage := next } :: after := by
  induction before with
  | nil => simp [advanceRequest, hr]
  | cons x rest ih =>
    have hx := hb x (by simp)
    simp only [List.cons_append, advanceRequest, hx, if_false]
    rw [ih (fun y hy => hb y (by simp [hy]))]

/-! ## Messages -/

/-- The message that stands first in a lane is taken. -/
theorem State.take_of_isFirst {α : Type} {s : State} {lane : Msg → Bool} {f : Msg → Option α} {m : Msg}
    {a : α} (h : s.isFirst lane m) (hf : f m = some a) : s.take lane f = some (a, s.without lane) := by
  unfold State.take
  rw [show s.inflight.find? lane = some m from h]
  simp [hf, State.without]

theorem State.without_within (s : State) (lane : Msg → Bool) : Within [.messages] s (s.without lane) :=
  Within.of_same (by intro p hp; cases p <;> simp_all [Part.same, State.without]) rfl

@[simp] theorem State.without_now (s : State) (l : Msg → Bool) : (s.without l).now = s.now := rfl
@[simp] theorem State.without_banks (s : State) (l : Msg → Bool) : (s.without l).banks = s.banks := rfl
@[simp] theorem State.without_points (s : State) (l : Msg → Bool) : (s.without l).points = s.points := rfl
@[simp] theorem State.without_detector (s : State) (l : Msg → Bool) :
    (s.without l).detector = s.detector := rfl
@[simp] theorem State.without_evaluator (s : State) (l : Msg → Bool) :
    (s.without l).evaluator = s.evaluator := rfl
@[simp] theorem State.without_pool (s : State) (l : Msg → Bool) : (s.without l).pool = s.pool := rfl
@[simp] theorem State.without_engine (s : State) (l : Msg → Bool) : (s.without l).engine = s.engine := rfl
@[simp] theorem State.without_dispatcher (s : State) (l : Msg → Bool) :
    (s.without l).dispatcher = s.dispatcher := rfl
@[simp] theorem State.without_units (s : State) (l : Msg → Bool) : (s.without l).units = s.units := rfl
@[simp] theorem State.without_port (s : State) (l : Msg → Bool) : (s.without l).port = s.port := rfl
@[simp] theorem State.without_reports (s : State) (l : Msg → Bool) : (s.without l).reports = s.reports := rfl
@[simp] theorem State.without_pending (s : State) (l : Msg → Bool) : (s.without l).pending = s.pending := rfl
@[simp] theorem State.without_inflight (s : State) (l : Msg → Bool) :
    (s.without l).inflight = s.inflight.eraseP l := rfl

/-! ## Frames -/

/-- A delivered frame is taken by its owner; only the channel's buffers change. -/
theorem State.takeFrame_of_isDelivered {s : State} {c : Nat} {o : Owner} {f : RxFrame}
    (h : s.isDelivered c o f) :
    ∃ buffers, s.takeFrame c o = some (f, s.setChannel c { s.channel c with buffers := buffers }) := by
  obtain ⟨h1, h2⟩ := h
  obtain ⟨rest, h3⟩ := List.head?_eq_some_iff.mp h1
  unfold State.takeFrame
  dsimp only
  rw [h3]
  dsimp only
  rw [if_pos h2]
  exact ⟨_, rfl⟩

theorem State.frameTaken_of_isDelivered {s : State} {c : Nat} {o : Owner} {f : RxFrame} (h : s.isDelivered c o f) :
    ∃ t, s.frameTaken c o f t :=
  let ⟨buffers, h⟩ := State.takeFrame_of_isDelivered h
  ⟨_, h, buffers, rfl⟩

/-- Where the first frame is not owed to the owner, it takes none (R130). -/
theorem State.takeFrame_none {s : State} {c : Nat} {o : Owner} (h : ∀ f, ¬s.isDelivered c o f) :
    s.takeFrame c o = none := by
  unfold State.takeFrame
  dsimp only
  split
  · rfl
  · next f rest h1 =>
    split
    · next h2 => exact absurd ⟨by rw [h1]; rfl, h2⟩ (h f)
    · rfl

theorem State.takeFrame_eq {s u : State} {c : Nat} {o : Owner} {f : RxFrame}
    (h : s.takeFrame c o = some (f, u)) :
    ∃ buffers, u = s.setChannel c { s.channel c with buffers := buffers } := by
  unfold State.takeFrame at h
  dsimp only at h
  split at h
  · exact absurd h (by simp)
  · split at h
    · obtain ⟨-, rfl⟩ := Prod.mk.inj (Option.some.inj h)
      exact ⟨_, rfl⟩
    · exact absurd h (by simp)

/-! ## Records of a table -/

variable {α : Type} {n : Nat}

@[simp] theorem rec?_put_self (v : Vector (Option α) n) (i : Nat) (x : Option α) (h : i < n) :
    rec? (put v i x) i = x := by
  simp [rec?, put, h]

@[simp] theorem rec?_put_ne (v : Vector (Option α) n) (i j : Nat) (x : Option α) (h : i ≠ j) :
    rec? (put v i x) j = rec? v j := by
  simp [rec?, put, Vector.getElem?_setIfInBounds_ne h]

@[simp] theorem item_put_self (v : Vector α n) (i : Nat) (x d : α) (h : i < n) :
    item (put v i x) i d = x := by
  simp [item, put, h]

@[simp] theorem item_put_ne (v : Vector α n) (i j : Nat) (x d : α) (h : i ≠ j) :
    item (put v i x) j d = item v j d := by
  simp [item, put, Vector.getElem?_setIfInBounds_ne h]

@[simp] theorem put_put (v : Vector α n) (i : Nat) (x y : α) : put (put v i x) i y = put v i y := by
  simp [put]

@[simp] theorem rec?_replicate_none (i : Nat) : rec? (Vector.replicate n (none : Option α)) i = none := by
  by_cases h : i < n <;> simp [rec?, h]

@[simp] theorem item_replicate (i : Nat) (x : α) : item (Vector.replicate n x) i x = x := by
  by_cases h : i < n <;> simp [item, h]

theorem rec?_ofFn (f : Fin n → Option α) (i : Nat) (h : i < n) : rec? (Vector.ofFn f) i = f ⟨i, h⟩ := by
  simp [rec?, h]

theorem item_map {β : Type} (f : α → β) (v : Vector α n) (i : Nat) (d : α) (e : β) (h : i < n) :
    item (v.map f) i e = f (item v i d) := by
  simp [item, h]

theorem lt_of_rec? {v : Vector (Option α) n} {i : Nat} {x : α} (h : rec? v i = some x) : i < n := by
  by_cases hi : i < n
  · exact hi
  · simp [rec?, hi] at h

end Sys2Proof.Machine
end

