-- ==== Sys2Proof/Laws/Schemes.lean ====
section
/-! SUPPORT. What a change of a scheme leaves: its record, its ARM_STATE report, its notice to the Engine
and its rescan request, once for the operations that every scheme command goes through. -/

namespace Sys2Proof.Machine

theorem Scheme.stamped_keeps (now : Time) (x y : Scheme) :
    (Scheme.stamped now x y).arm = y.arm ∧ (Scheme.stamped now x y).enable = y.enable ∧
      (Scheme.stamped now x y).mode = y.mode := by
  unfold Scheme.stamped
  split <;> simp

/-- The record, report and notice of a scheme that goes from `x` to `y`. -/
theorem State.writeScheme_spec (s : State) (i : Nat) (x y z : Scheme) (cause : ArmCause)
    (hz : Scheme.stamped s.now x y = z) :
    let t := s.writeScheme i x y cause
    t.evaluator.schemes = put s.evaluator.schemes i (some z) ∧
    reportsOffered (if x.reported = z.reported then []
      else [armStateReport s.now i (reportedCode x.reported) (armCauseCode cause) z]) s t ∧
    (¬(x.arm = y.arm ∧ x.enable = y.enable ∧ x.mode = y.mode) →
      .schemeState i y.enable y.arm y.mode ∈ t.inflight) := by
  intro t
  have hk := Scheme.stamped_keeps s.now x y
  rw [hz] at hk
  have k1 : ∀ (u : State) (a b : Scheme), (u.noteDeparture a b).evaluator.schemes = u.evaluator.schemes :=
    fun u a b => (u.noteDeparture_within a b).same .schemes (by decide)
  have k2 : ∀ u : State, (u.refreshCarry i).evaluator.schemes = u.evaluator.schemes :=
    fun u => (u.refreshCarry_within i).same .schemes (by decide)
  have k3 : ∀ (u : State) (a b : Scheme), (u.noteDeparture a b).reports = u.reports :=
    fun u a b => (u.noteDeparture_within a b).same .reports (by decide)
  have k4 : ∀ u : State, (u.refreshCarry i).reports = u.reports :=
    fun u => (u.refreshCarry_within i).same .reports (by decide)
  subst t
  unfold State.writeScheme
  dsimp only
  rw [hz]
  refine ⟨?_, ?_, ?_⟩
  · rw [k1, k2]
    repeat' split
    all_goals simp [State.reportArm]
  · unfold reportsOffered
    rw [k3, k4]
    repeat' split
    all_goals simp [State.reportArm, armStateReport]
  · intro hn
    refine (State.noteDeparture_mail _ _ _) _ ((State.refreshCarry_mail _ _) _ ?_ rfl) rfl
    rw [if_neg (by rw [hk.1, hk.2.1, hk.2.2]; exact hn)]
    simp [stateNoticeOf, hk]

/-- The same with the alert recomputed. -/
theorem State.changeScheme_spec (s : State) (i : Nat) (x y z : Scheme) (cause : ArmCause)
    (hz : Scheme.stamped s.now x y = z) :
    let t := s.changeScheme i x y cause
    t.evaluator.schemes = put s.evaluator.schemes i (some z) ∧
    reportsOffered (if x.reported = z.reported then []
      else [armStateReport s.now i (reportedCode x.reported) (armCauseCode cause) z]) s t ∧
    (¬(x.arm = y.arm ∧ x.enable = y.enable ∧ x.mode = y.mode) →
      .schemeState i y.enable y.arm y.mode ∈ t.inflight) := by
  obtain ⟨h1, h2, h3⟩ := State.writeScheme_spec s i x y z cause hz
  refine ⟨?_, ?_, fun hn => (State.refreshAlert_mail _) _ (h3 hn) rfl⟩
  · rw [← h1]
    exact (State.refreshAlert_within _).same .schemes (by decide)
  · unfold reportsOffered at *
    rw [← h2]
    exact (State.refreshAlert_within _).same .reports (by decide)

/-- One evaluation and its judgement: the record `y`, stamped as `z`, with the report, the notice and, where
ARMING is entered or a release judged, the rescan request. -/
theorem State.judgeFrom_spec (s : State) (i : Nat) (d : SchemeDef) (x base : Scheme) (release : Bool)
    (cause : Bool → ArmCause) (e : EvalRec) (j : Judged) (y z : Scheme)
    (he : evaluate d s.liveView s.now = e) (hj : judgeArm d s.now base.arm base.dwell e.q = j)
    (hy : { base with record := some e, arm := j.arm, dwell := j.dwell } = y)
    (hz : Scheme.stamped s.now x y = z) :
    let t := s.judgeFrom i d x base release cause
    t.evaluator.schemes = put s.evaluator.schemes i (some z) ∧
    reportsOffered (if x.reported = z.reported then []
      else [armStateReport s.now i (reportedCode x.reported) (armCauseCode (cause j.expired)) z]) s t ∧
    (¬(x.arm = y.arm ∧ x.enable = y.enable ∧ x.mode = y.mode) →
      .schemeState i y.enable y.arm y.mode ∈ t.inflight) ∧
    (release = true ∨ j.entered = true → .rescan i .evaluator ∈ t.inflight) := by
  obtain ⟨h1, h2, h3⟩ := State.changeScheme_spec s i x y z (cause j.expired) hz
  intro t
  have ht : t = if release || rescanDue x.record e j then
      (s.changeScheme i x y (cause j.expired)).send (.rescan i .evaluator)
      else s.changeScheme i x y (cause j.expired) := by
    subst hy hj he
    rfl
  rw [ht]
  refine ⟨?_, ?_, ?_, ?_⟩
  · split <;> simpa using h1
  · unfold reportsOffered at *
    split <;> simpa using h2
  · intro hn
    split
    · exact (State.send_mail _ _) _ (h3 hn) rfl
    · exact h3 hn
  · intro hn
    have hd : (release || rescanDue x.record e j) = true := by
      rcases hn with h | h
      · simp [h]
      · simp [rescanDue, h]
    rw [if_pos hd]
    simp

/-! ## The corridor alert (R71) -/

theorem State.alertCondition_iff (s : State) : s.alertCondition = true ↔ s.alertHolds := by
  have alerts (a : ArmState) : a.alerts = true ↔ a = .arming ∨ a = .armed ∨ a = .disarming ∨ a = .executing := by
    cases a <;> simp [ArmState.alerts]
  have scheme (x : Scheme) : some x ∈ s.evaluator.schemes.toList ↔ ∃ i, s.scheme? i = some x := by
    simp only [State.scheme?, rec?, Vector.mem_toList_iff, Vector.mem_iff_getElem?]
    refine exists_congr (fun i => ?_)
    cases s.evaluator.schemes[i]? with
    | none => simp
    | some y => simp
  unfold State.alertCondition State.alertHolds
  rw [Bool.or_eq_true, List.any_eq_true]
  refine or_congr_right ⟨?_, ?_⟩
  · rintro ⟨o, hm, ho⟩
    cases o with
    | none => simp at ho
    | some x =>
      obtain ⟨i, hi⟩ := (scheme x).1 hm
      simp only [Bool.and_eq_true, alerts] at ho
      exact ⟨i, x, hi, ho⟩
  · rintro ⟨i, x, hi, he, ha⟩
    exact ⟨some x, (scheme x).2 ⟨i, hi⟩, by simp [he, alerts, ha]⟩

theorem State.refreshAlert_alert (s : State) : s.refreshAlert.evaluator.alert = s.alertCondition := by
  unfold State.refreshAlert
  dsimp only
  split
  · next h => exact h.symm
  · rfl

theorem State.refreshAlert_holds (s : State) : s.refreshAlert.evaluator.alert = true ↔ s.refreshAlert.alertHolds := by
  rw [s.refreshAlert_alert, State.alertCondition_iff]
  unfold State.refreshAlert
  dsimp only
  split <;> exact Iff.rfl

/-- What is sent as the alert is recomputed: a changed value to the eight channels. -/
theorem State.refreshAlert_sends (p : Msg → Bool) (s : State) :
    messagesSent p ((if s.alertCondition = s.evaluator.alert then []
      else (List.range 8).map (fun c => Msg.alert c s.alertCondition)).filter p) s s.refreshAlert := by
  unfold State.refreshAlert
  dsimp only
  split
  · exact .refl _ _
  · exact State.sendAll_sends p _ _

/-- The alert recomputed is its condition; a change of it is sent to the eight channels, and none where it stands. -/
theorem State.refreshAlert_follows (s : State) : s.alertFollowed s.refreshAlert := by
  refine ⟨s.refreshAlert_holds, ?_⟩
  have h := s.refreshAlert_sends Msg.isAlert
  rw [s.refreshAlert_alert]
  rw [List.filter_eq_self.2] at h
  · exact h
  · intro m hm
    split at hm
    · exact absurd hm List.not_mem_nil
    · obtain ⟨c, -, rfl⟩ := List.mem_map.1 hm
      rfl

/-- What every channel will hold once it has taken all that is on its way follows the alert as it is recomputed. -/
theorem State.refreshAlert_sound (s : State) (h : ∀ c < 8, s.alertAt c = s.evaluator.alert) :
    s.refreshAlert.AlertSound := by
  refine ⟨s.refreshAlert_holds, fun c hc => ?_⟩
  unfold State.refreshAlert
  dsimp only
  split
  · exact h c hc
  · have sent : ((List.range 8).map (fun d => Msg.alert d s.alertCondition)).filterMap (alertFor c) =
        [s.alertCondition] := by
      rw [List.filterMap_map]
      generalize s.alertCondition = v
      have table : ∀ d < 8, (List.range 8).filterMap (alertFor d ∘ fun e => Msg.alert e v) = [v] := by
        intro d hd
        match d, hd with
        | 0, _ | 1, _ | 2, _ | 3, _ | 4, _ | 5, _ | 6, _ | 7, _ => rfl
      exact table c hc
    simp [State.alertAt, State.sendAll, List.filterMap_append, sent]

theorem Msg.ofPreparation_other (m : Msg) (h : m.ofPreparation = true) :
    m.isSchemeState = false ∧ m.isAlert = false := by
  cases m <;> simp_all [Msg.ofPreparation, Msg.isSchemeState, Msg.isAlert]

/-- What the writing of a scheme sends, but for the preparation and quiescence: one scheme-state notice where arm state,
enable or mode changes (R58). -/
theorem State.writeScheme_sends {p : Msg → Bool} (prep : ∀ m : Msg, m.ofPreparation = true → p m = false)
    (quiet : p .quiescence = false) (s : State) (i : Nat) (x y : Scheme) (cause : ArmCause) :
    messagesSent p ((if x.arm = y.arm ∧ x.enable = y.enable ∧ x.mode = y.mode then []
      else [Msg.schemeState i y.enable y.arm y.mode]).filter p) s (s.writeScheme i x y cause) := by
  have depart (u : State) (a b : Scheme) : messagesSent p [] u (u.noteDeparture a b) := by
    unfold State.noteDeparture
    split
    · exact State.send_other _ quiet
    · exact .refl _ _
  have report (u : State) (old : Reported) (z : Scheme) :
      messagesSent p [] u (if old = z.reported then u else u.reportArm i old z cause) := by
    split <;> exact .of_eq rfl
  obtain ⟨ha, he, hm⟩ := Scheme.stamped_keeps s.now x y
  unfold State.writeScheme
  dsimp only
  refine (depart _ _ _).after ((State.refreshCarry_sends prep _ _).after ?_)
  rw [ha, he, hm]
  split
  · exact (report _ _ _).then (.of_eq rfl)
  · have notice : stateNoticeOf i (Scheme.stamped s.now x y) = .schemeState i y.enable y.arm y.mode := by
      rw [← ha, ← he, ← hm]
      rfl
    rw [notice]
    exact messagesSent.then (State.sendAll_sends p _ [_]) ((report _ _ _).then (.of_eq rfl))

/-- A scheme that goes from `x` to `y` sends the Engine one scheme-state notice where arm state, enable or mode changes
(R58), and none else. -/
theorem State.changeScheme_notice (s : State) (i : Nat) (x y : Scheme) (cause : ArmCause) :
    messagesSent Msg.isSchemeState (if x.arm = y.arm ∧ x.enable = y.enable ∧ x.mode = y.mode then []
      else [.schemeState i y.enable y.arm y.mode]) s (s.changeScheme i x y cause) := by
  have alert := (s.writeScheme i x y cause).refreshAlert_sends Msg.isSchemeState
  have notice := s.writeScheme_sends (p := Msg.isSchemeState) (fun m h => (m.ofPreparation_other h).1) rfl i x y cause
  rw [List.filter_eq_nil_iff.2 (by
    intro m hm
    split at hm
    · exact absurd hm List.not_mem_nil
    · obtain ⟨c, -, rfl⟩ := List.mem_map.1 hm
      simp [Msg.isSchemeState])] at alert
  rw [List.filter_eq_self.2 (by
    intro m hm
    split at hm
    · exact absurd hm List.not_mem_nil
    · rw [List.mem_singleton.1 hm]
      rfl)] at notice
  exact alert.after notice

/-- The alert follows a change of one scheme (R71). -/
theorem State.changeScheme_alert (s : State) (i : Nat) (x y : Scheme) (cause : ArmCause) :
    s.alertFollowed (s.changeScheme i x y cause) := by
  have written := s.writeScheme_sends (p := Msg.isAlert) (fun m h => (m.ofPreparation_other h).2) rfl i x y cause
  rw [List.filter_eq_nil_iff.2 (by
    intro m hm
    split at hm
    · exact absurd hm List.not_mem_nil
    · rw [List.mem_singleton.1 hm]
      simp [Msg.isAlert])] at written
  have same : (s.writeScheme i x y cause).evaluator.alert = s.evaluator.alert :=
    ((s.writeScheme_within i x y cause).same .alert (by decide)).2
  obtain ⟨holds, sent⟩ := (s.writeScheme i x y cause).refreshAlert_follows
  rw [same] at sent
  exact ⟨holds, sent.then written⟩

end Sys2Proof.Machine
end

