-- ==== Sys2Proof/Tests/Slice0.lean ====
section
/-! SUPPORT. Tests: the checks of WellFormed, worked examples of the manual, one step of a few commands, and for
every statement with hypotheses states and operands that meet them (`test_meets_…`). -/

/-! Each test waits for the kernel. One after another they hold one thread; as tasks of their own they would hold a
thread each while the proofs before them are checked. -/

set_option Elab.async false

namespace Sys2Proof.Tests

open Sys2Proof.Machine

/-! ## A small corridor: one scheme, one site on two channels, two contingencies, two actions -/

def analog0 : AnalogDef := ⟨.slot 0 3, 100, -1000, 3000, .hold, 2⟩
def analog1 : AnalogDef := ⟨.loc, 100, -1000, 3000, .zero, 1⟩
def status0 : StatusDef := ⟨.slot 0 1, 100, 1⟩
def status1 : StatusDef := ⟨.loc, 100, 1⟩
def contingency0 : ContingencyDef := ⟨[⟨some (0, 17), none, .opened⟩], .any, 40, List.replicate 9 0⟩
def contingency1 : ContingencyDef := ⟨[⟨some (0, 18), some 0, .opened⟩], .both, 40, List.replicate 9 0⟩
def action0 : ActionDef := ⟨.genDrop, 0, 1, .fixed 1400, 0, 0, 0, 1⟩
def action1 : ActionDef := ⟨.loadShed, 0, 2, .point 0, 50, 100, 1, 1⟩
def action2 : ActionDef := ⟨.switch, 0, 3, .fixed 0, 0, 0, 2, 1⟩
def channelDef0 : ChannelDef := ⟨true, 100, 2, 4, 4, 3, 10⟩

def scheme0 : SchemeDef where
  trigger := 0
  inputs := [⟨0, 256⟩]
  curve := [(0, 0), (1000, 2900)]
  margin := 100
  armOn := 500
  armOff := 400
  armDwell := 100
  disarmDwell := 200
  deadline := 300
  overshoot := 0
  mandatory := [2]
  initialEnable := true
  initialMode := .service
  ignoredInputs := List.replicate 6 0
  ignoredCurve := List.replicate 12 0
  ignoredMandatory := List.replicate 3 0

def bank : Bank := { Bank.empty with
  analog := put (put Bank.empty.analog 0 (some analog0)) 1 (some analog1)
  status := put (put Bank.empty.status 0 (some status0)) 1 (some status1)
  contingency := put (put Bank.empty.contingency 0 (some contingency0)) 1 (some contingency1)
  scheme := put Bank.empty.scheme 0 (some scheme0)
  action := put (put (put Bank.empty.action 0 (some action0)) 1 (some action1)) 2 (some action2)
  site := put Bank.empty.site 0 (some ⟨0, some 1⟩)
  channel := put (put Bank.empty.channel 0 (some channelDef0)) 1 (some channelDef0)
  params := some ⟨50, 10, 1000, 1000⟩
  label := 7
  check := some 0
  state := .sealed }

/-- The staged bank before it is sealed. -/
def draft : Bank := { bank with label := 8, check := none, state := .opened }

/-- A draft with no parameters, which a site needs. -/
def flawed : Bank := { draft with params := none }

def analogPoint : Point Int := ⟨600, 600, false, .good, 99900, 0, none, none, false⟩
def statusPoint : Point StatusVal := ⟨.closed, .closed, false, .good, 99900, 0, none, none, false⟩
def armed : Scheme :=
  ⟨true, false, .service, .armed, false, none, none, 50,
    some ⟨600, 1840, false, [⟨600, .good⟩], .segment 0, 99900⟩⟩
def ready : Action := ⟨.available, 1400, none, none, none, none, 0⟩
def channelUp : Channel := { Channel.reset with
  state := .up, window := [true, true], lastGood := 99900, cycle := some ⟨99600, 0, 500⟩ }
def link0 : Link := ⟨true, 0, .none, some 5⟩
def selection0 : Selection := ⟨[⟨2, 0⟩, ⟨0, 1400⟩, ⟨1, 600⟩], 1840, false, .sufficient, 99900⟩

def corridor : State := { State.reset with
  now := 100000
  banks := { State.reset.banks with active := bank }
  points := {
    analog := put (put State.reset.points.analog 0 (some analogPoint)) 1 (some analogPoint)
    status := put (put State.reset.points.status 0 (some statusPoint)) 1 (some statusPoint)
    seq := put State.reset.points.seq 0 ⟨9, false, true⟩ }
  detector := put (put State.reset.detector 0 (some (Contingency.cleared 1))) 1 (some (Contingency.cleared 1))
  evaluator := { State.reset.evaluator with
    schemes := put State.reset.evaluator.schemes 0 (some armed), alert := true }
  pool := { State.reset.pool with
    actions := put (put (put State.reset.pool.actions 0 (some ready)) 1
      (some { ready with credit := 600, mwQuality := some .good })) 2 (some { ready with credit := 0 })
    siteReach := put State.reset.pool.siteReach 0 true }
  engine := { State.reset.engine with
    known := put State.reset.engine.known 0 ⟨true, .armed, .service, false⟩
    published := put State.reset.engine.published 0 (some selection0)
    images := put State.reset.engine.images 0 ⟨[1, 2, 3], 4, .confirmed⟩ }
  units := {
    channels := put (put State.reset.units.channels 0 channelUp) 1 channelUp
    sites := put State.reset.units.sites 0 ⟨true, .primary 0, none, 0⟩
    links :=
      let row := put (Vector.replicate 16 Link.clear) 0 link0
      put (put State.reset.units.links 0 row) 1 row } }

/-- A request of a kind that waits alone in the port's queue. -/
def ask (kind : Nat) (words : List Word) : Request := ⟨kind, 3, words, .waiting⟩

def asked (s : State) (kind : Nat) (words : List Word) : State :=
  { s with port := { s.port with requests := [ask kind words] } }

/-- One message on its way. -/
def told (s : State) (m : Msg) : State := { s with inflight := [m] }

/-- One frame of site 0 in a receive buffer of channel 0, checked and owed to one owner. -/
def frame (kind : Nat) (words : List Word) (owner : Owner) : RxFrame :=
  ⟨⟨kind, false, false, 0, 6, words.length, false⟩, wordBytes words, crc16 (wordBytes words), some [owner]⟩

def delivered (s : State) (f : RxFrame) : State := s.setChannel 0 { s.channel 0 with buffers := [f] }

def withScheme (x : Scheme) : State := corridor.setScheme 0 x
def withChannel (x : Channel) : State := corridor.setChannel 0 x

/-- The state an outcome leaves. -/
def next? (o : Host.Outcome State Fault Refusal) : Option State :=
  match o with
  | .next s => some s
  | .fault _ => none
  | .refused _ => none

def after (c : Instr) (s : State) : State := (next? (exec c s)).getD State.reset

/-! ## WellFormed refuses -/

theorem test_wellFormed_header_of_five_bytes :
    Instr.wellFormed (.headerDecode .host [1, 2, 3, 4, 5]) = false := by decide
theorem test_wellFormed_odd_host_payload :
    Instr.wellFormed (.hostRequestArrival [1] 0) = false := by decide
theorem test_wellFormed_long_channel_payload :
    Instr.wellFormed (.channelFrameComplete 0 (List.replicate 242 0) 0) = false := by decide +kernel
theorem test_wellFormed_odd_channel_payload :
    Instr.wellFormed (.channelFrameComplete 0 [1, 2, 3] 0) = false := by decide
theorem test_wellFormed_serials_outside_range :
    Instr.wellFormed (.orderTimeoutAttempt1 0) = false ∧ Instr.wellFormed (.orderTimeoutAttempt2 65536) = false ∧
      Instr.wellFormed (.outcomeNotice 0 0 .confirmed .service) = false := by decide
theorem test_wellFormed_at_the_limits :
    Instr.wellFormed (.headerDecode .host [1, 2, 3, 4]) = true ∧
      Instr.wellFormed (.hostRequestArrival (List.replicate 240 0) 0) = true ∧
      Instr.wellFormed (.orderTimeoutAttempt1 1) = true ∧ Instr.wellFormed (.orderTimeoutAttempt2 65535) = true := by
  decide +kernel

/-! ## No word spells a command -/

theorem test_no_word_spells_a_command : decodeTableWord 16 0x20 = none ∧
    (State.reset.withFetchWord 16 0x20).pending = [] := by decide

/-! ## Worked examples of the manual -/

/-- The POLL header of 11.6, its check byte, its repair, and a second inversion. -/
theorem test_poll_header_of_section_11_6 :
    headerCheck 0x04 0x53 0x00 = 0xD0 ∧
      readHeader 0x04 0x53 0x00 0xD0 = some ⟨1, false, false, 5, 3, 0, false⟩ ∧
      readHeader 0x04 0x43 0x00 0xD0 = some ⟨1, false, false, 5, 3, 0, true⟩ ∧
      readHeader 0x00 0x43 0x00 0xD0 = none ∧
      Sending.bytes ⟨.poll 5, 3, false⟩ = [0xC5, 0x3A, 0x04, 0x53, 0x00, 0xD0] := by
  decide +kernel

/-- The rows of R191: reserved bits, syndromes 30 and 31, and P alone in error. -/
theorem test_rows_of_R191 :
    readHeader 0x04 0x53 0x00 0xD1 = none ∧ readHeader 0x04 0x53 0x00 0xD2 = none ∧
      readHeader 0x04 0x53 0x00 0x50 = some ⟨1, false, false, 5, 3, 0, true⟩ ∧
      readHeader 0x00 0x00 0x00 0x78 = none ∧ readHeader 0x00 0x00 0x00 0xFC = none := by
  decide +kernel

/-- The check values over the bytes 31h to 39h (R192). -/
theorem test_crc_of_R192 :
    crc16 [0x31, 0x32, 0x33, 0x34, 0x35, 0x36, 0x37, 0x38, 0x39] = 0x29B1 := by decide +kernel

/-- The value over the same bytes of the check of 32 bits that R159's terms describe. -/
theorem test_crc32_of_the_nine_digits :
    crc32 [0x31, 0x32, 0x33, 0x34, 0x35, 0x36, 0x37, 0x38, 0x39] = 0x0376E6E7 ∧
      Bank.empty.checkValue = 0xFFFFFFFF := by decide +kernel

/-- Scheme 3 at rest (3.11.1). -/
theorem test_scheme_at_rest_of_section_3_11 :
    weightedSum [(14200, 256), (13855, 256), (3000, -128)] = 6798080 ∧ armingQuantity 6798080 = 26555 ∧
      curveAt [(20000, 0), (24000, 1500), (28000, 4500), (32000, 9000)] 26555 = (.segment 1, 3417) := by
  decide +kernel

/-- A falling segment (3.11.2) and the edges of the curve (3.11.3). -/
theorem test_curve_of_section_3_11 :
    interpolate (28000, 4500) (32000, 3000) 29001 = 4125 ∧
      (let curve : List (Int × Nat) := [(20000, 0), (24000, 1500), (28000, 4500), (32000, 9000)]
       curveAt curve 15000 = (.below, 0) ∧ curveAt curve 20000 = (.below, 0) ∧
        curveAt curve 20001 = (.segment 0, 1) ∧ curveAt curve 24000 = (.segment 1, 1500) ∧
        curveAt curve 32000 = (.above, 9000) ∧ curveAt curve 32767 = (.above, 9000)) := by
  decide +kernel

/-! The queue under pressure (10.5). -/

def routine : Report := mkReport .pointQuality false 0 0 []
def execution : Report := mkReport .executionStart false 0 0 []
def queueOf (routines executions : Nat) : ReportQueue :=
  ⟨List.replicate routines routine ++ List.replicate executions execution, false, false⟩
def queue1 : ReportQueue := (queueOf 64 31).offer routine
def queue2 : ReportQueue := queue1.offer execution
def queue3 : ReportQueue := queue2.offer execution
def queue4 : ReportQueue := queue3.offer routine
def fetched : State := after .reportFetch (asked { State.reset with reports := queue4 } 0x2F [40])

/-- Total, EXECUTION and ROUTINE records, the pending flags, and the last record's gap flag. -/
def summary (q : ReportQueue) : List Nat × List Bool :=
  ([q.records.length, q.executionCount, q.routineCount],
    [q.gapAny, q.gapRoutine, (q.records.getLast?.map Report.gap).getD false])

theorem test_queue_of_section_10_5 :
    summary queue1 = ([95, 31, 64], [true, false, false]) ∧ summary queue2 = ([96, 32, 64], [false, false, true]) ∧
      summary queue3 = ([96, 33, 63], [false, true, false]) ∧ summary queue4 = ([96, 33, 63], [true, true, false]) := by
  decide +kernel

theorem test_fetch_of_section_10_5 :
    summary fetched.reports = ([80, 33, 47], [true, true, false]) ∧
      (fetched.port.replies.map (fun r => r.content.drop 128)) = [[80, 33, 47, 1, 1]] ∧
      summary (fetched.reports.offer routine) = ([81, 33, 48], [false, false, true]) := by
  decide +kernel

/-! ## One step of a few commands on the small corridor -/

/-- C5h C5h 3Ah is a delimiter at its second and third bytes (R191). -/
theorem test_delimiter_after_a_stray_byte :
    (after (.delimiterFound .host [0xC5, 0xC5, 0x3A, 0x04]) State.reset).port.rx = .header [0x04] := by
  decide +kernel

/-- An INDICATION of code 17 detects contingency 0 and hands its scheme off. -/
theorem test_indication_detects :
    let s := after (.indicationTaken 0) (delivered corridor (frame 0x13 [1, 0x1100] .detector))
    (s.contingency? 0).map Contingency.state = some .held ∧ .freezeReq 0 ∈ s.inflight ∧
      .handOff 0 0 100000 false ∈ s.inflight := by
  decide +kernel

/-- The hand-off of an armed scheme commits its actions and sends its orders. -/
theorem test_hand_off_executes :
    let s := after (.handOff 0) (told corridor (.handOff 0 0 99990 false))
    (s.scheme? 0).map Scheme.arm = some .executing ∧
      s.dispatcher.orders.map (fun o => (o.serial, o.action, o.credit)) = [(1, 2, 0), (2, 0, 1400), (3, 1, 600)] ∧
      (s.channel 0).tx.map Sending.frame = some (.trip 0 1 3 0 1 false) ∧
      (s.action? 0).map Action.avail = some .committed := by
  decide +kernel

/-- STAGE_WRITE takes the parameters, STAGE_SEAL seals the draft. -/
theorem test_stage_write_and_seal :
    let open_ : State := { corridor with banks := { corridor.banks with staged := flawed } }
    let s := after .stageWrite (asked open_ 0x22 [0x0700, 0x0100, 50, 10, 1000, 1000])
    s.banks.staged = draft ∧ (after .stageSeal (asked s 0x23 [])).banks.staged.state = .sealed ∧
      (after .stageSeal (asked open_ 0x23 [])).banks.staged.state = .rejected := by
  decide +kernel

/-! ## States and operands that meet the hypotheses of the statements -/

/-! ### Steps and invariants -/

theorem test_meets_StepRunsTheFrontCommand :
    corridor.pending = [] ∧ (next? (step corridor)).isSome = true := by decide +kernel

/-- Eight waiting frames, two full receive buffers, a window and an acquire progress of sixteen. -/
def fullBuffers : Channel := { channelUp with
  window := List.replicate 16 true, progress := 16, outSeq := 15, queue := List.replicate 8 (.poll 0)
  buffers := [frame 0x15 [0x0400] .engine, frame 0x15 [0x0400] .engine] }
/-- The Report Queue at both of its limits, beside such a channel. -/
def atTheLimits : State := { withChannel fullBuffers with reports := queueOf 64 32 }

theorem test_meets_StepsKeepTheBounds :
    (next? (step atTheLimits)).isSome = true ∧ atTheLimits.reports.Bounded ∧
      (∀ c : Fin 8, (atTheLimits.channel c).Bounded) ∧ ∀ c, 8 ≤ c → atTheLimits.channel c = Channel.reset := by
  refine ⟨by decide +kernel, by decide +kernel, by decide +kernel, fun c h => ?_⟩
  have : ¬ c < 8 := by omega
  simp [State.channel, item, this]

/-- One request replied to and one being carried out, one reply and two refusals. -/
def busyPort : State := { corridor with port := { corridor.port with
  requests := [{ ask 0x20 [] with stage := .replied }, { ask 0x32 [] with stage := .running }]
  replies := [⟨0x20, 3, .none, [], false⟩, ⟨0x7F, 1, .badKind, [], true⟩, ⟨0x7F, 2, .badKind, [], true⟩]
  restart := some ⟨1, 2⟩ } }

theorem test_meets_StepsKeepThePortConsistent :
    busyPort.port.Consistent ∧ (next? (step { busyPort with pending := [.restartComplete] })).isSome = true := by
  decide +kernel

/-- An order of scheme 0 for action 0 on channel 0. -/
def order0 : Order where
  serial := 7
  action := 0
  site := 0
  output := 1
  credit := 1400
  scheme := 0
  origin := .selection
  attempt := 1
  channel := 0
  firstChannel := 0
  state := .queued
  creation := 99990
  sendTime := none
  timeoutEnd := none
  outcomeTime := none
  late := false
  mismatch := false

def sent0 : Order := { order0 with state := .sent, sendTime := some 99900, timeoutEnd := some 100000 }
def rerouted0 : Order := { sent0 with state := .rerouted, attempt := 2, channel := 1 }

def exec0 : Exec where
  contingency := 0
  detectTime := 99990
  startTime := 99990
  deadline := 102990
  requirement := 1840
  mode := .service
  entriesLost := 0
  cover := .none
  recheck := false
  exhausted := false
  degraded := false
  coldStart := false
  tableFull := false
  coverUsed := false
  mandatoryMissing := false

/-- Scheme 0 executes contingency 0 with some orders in the table. -/
def executing (x : Exec) (orders : List Order) : State := { corridor with
  detector := put corridor.detector 0 (some { Contingency.cleared 1 with state := .held, liveCount := 1 })
  evaluator := { corridor.evaluator with
    schemes := put corridor.evaluator.schemes 0 (some { armed with
      arm := .executing, frozen := true, preExec := some .armed }) }
  pool := { corridor.pool with
    actions := put corridor.pool.actions 0 (some { ready with
      avail := .committed, committing := some 0, lastSerial := some 7 }) }
  dispatcher := ⟨put corridor.dispatcher.execs 0 (some x), orders, 8⟩ }

theorem test_meets_StepsKeepTheOrderTableConsistent :
    let s := executing exec0 [order0, { order0 with serial := 65535, action := 1 }]
    s.dispatcher.Consistent ∧ (next? (step s)).isSome = true := by decide +kernel

/-- A switch to a sealed staged bank, being prepared. -/
def switching (x : SwitchState) : State := { corridor with
  banks := { corridor.banks with staged := { bank with label := 8 }, switch := x, requested := some 8 } }
def drafting (b : Bank) : State := { corridor with banks := { corridor.banks with staged := b } }

theorem test_meets_StepsKeepTheBanksConsistent :
    (switching .preparing).banks.Consistent ∧ (drafting draft).banks.Consistent ∧
      corridor.banks.Consistent ∧ (next? (step corridor)).isSome = true := by decide +kernel

theorem test_meets_StepsKeepThePointsWellFormed :
    (∀ p ∈ corridor.points.analog.toList.filterMap id, p.WellFormed) ∧
      (∀ p ∈ corridor.points.status.toList.filterMap id, p.WellFormed) ∧
      (corridor.points.analog.toList.filterMap id).length = 2 := by decide +kernel

/-! ### The Report Queue -/

theorem test_meets_RoutineReportAdmission :
    routine.isExecution = false ∧
      ((queueOf 63 32).records.length < 96 ∧ (queueOf 63 32).routineCount < 64) ∧
      ¬((queueOf 64 31).records.length < 96 ∧ (queueOf 64 31).routineCount < 64) ∧
      ¬((queueOf 63 33).records.length < 96 ∧ (queueOf 63 33).routineCount < 64) := by decide +kernel

theorem test_meets_ExecutionReportAdmission :
    execution.isExecution = true ∧ (queueOf 64 31).records.length < 96 ∧ (queueOf 64 32).Bounded ∧
      ((queueOf 64 32).records.length = 96 ∧
        (queueOf 64 32).records = [] ++ routine :: (queueOf 63 32).records ∧ routine.isExecution = false) ∧
      ((queueOf 0 96).records.length = 96 ∧ ∀ y ∈ (queueOf 0 96).records, y.isExecution = true) := by
  decide +kernel

theorem test_meets_GapFlagsAtAdmission :
    execution.isExecution = true ∧ routine.isExecution = false ∧ (queueOf 64 31).records.length < 96 ∧
      ((queueOf 1 95).records.length = 96 ∧ ∃ x ∈ (queueOf 1 95).records, x.isExecution = false) ∧
      ((queueOf 63 32).records.length < 96 ∧ (queueOf 63 32).routineCount < 64) ∧
      (next? (exec .reportFetch corridor)).isSome = true ∧
      (next? (exec (.powerOnReset 3) corridor)).isSome = true ∧
      (asked corridor 0x2F [40]).isNext (ask 0x2F [40]) ∧ (ask 0x2F [40]).kind = 0x2F := by decide +kernel

theorem test_meets_ReportFetch :
    (asked corridor 0x2F [0]).isNext (ask 0x2F [0]) ∧ (asked corridor 0x2F [40]).isNext (ask 0x2F [40]) ∧
      (ask 0x2F [40]).kind = 0x2F ∧ (ask 0x2F [40]).words = [40] := by decide +kernel

/-! ### Receivers and the port -/

def hostRx (x : RxState) : State := corridor.setRx .host x
def channelRx (x : RxState) : State := corridor.setRx (.channel 0) x
def header (length : Nat) : Header := ⟨0x20, false, false, 3, 0, length, false⟩

theorem test_meets_DelimiterAndHeader :
    ((hostRx (.hunt [0xC5])).rx .host = .hunt [0xC5] ∧ (hostRx (.hunt [0xC5])).receives .host = true ∧
      [0xC5] ++ [0xC5, 0x3A, 1, 2, 3] = [0xC5] ++ 0xC5 :: 0x3A :: [1, 2, (3 : Byte)] ∧
      ¬([0xC5, 0x3A] : List Byte) <:+: [0xC5] ++ [0xC5] ∧ ([1, 2, 3] : List Byte).length < 4) ∧
    ((channelRx (.header [0x04])).rx (.channel 0) = .header [0x04] ∧
      (channelRx (.header [0x04])).receives (.channel 0) = true ∧
      [0x04] ++ [0x53, 0x00, 0xD0] = [0x04, 0x53, 0x00, (0xD0 : Byte)] ∧
      readHeader 0x04 0x53 0x00 0xD0 = some ⟨1, false, false, 5, 3, 0, false⟩ ∧
      readHeader 0x04 0x53 120 (headerCheck 0x04 0x53 120) = some ⟨1, false, false, 5, 3, 120, false⟩ ∧
      readHeader 0x04 0x53 121 (headerCheck 0x04 0x53 121) = some ⟨1, false, false, 5, 3, 121, false⟩ ∧
      readHeader 0x04 0x53 0x00 0xD1 = none) := by decide +kernel

theorem test_meets_HeaderCodeCorrectsOneBit :
    headerData 0x84 0x53 0x00 = headerData 0x04 0x53 0x00 ^^^ (1 <<< (23 : Fin 24).val) ∧
      headerData 0x04 0x53 0x01 = headerData 0x04 0x53 0x00 ^^^ (1 <<< (0 : Fin 24).val) ∧
      2 ≤ (2 : Fin 8).val ∧ 2 ≤ (7 : Fin 8).val := by decide

theorem test_meets_HostRequestArrival :
    (hostRx (.body (header 0))).port.rx = .body (header 0) ∧
      (hostRx (.body (header 1))).port.rx = .body (header 1) ∧ ([0, 1] : List Byte).length = 2 * 1 ∧
      ¬((header 1).length = 0 ∨ crc16 [0, 1] = 0) ∧ (header 0).length = 0 ∧ (header 0).reply = false ∧
      (header 0).kind ∈ requestKinds ∧ 0x1F ∉ requestKinds ∧ 0x33 ∉ requestKinds ∧
      2 ≤ busyPort.port.requests.length ∧ corridor.port.requests.length < 2 := by decide +kernel

theorem test_meets_RepliesOfThePort :
    (corridor.port.refusals < 2 ∧ 2 ≤ busyPort.port.refusals ∧
      (hostRx (.header [1])).port.rx = .header [1] ∧
      ((hostRx (.body (header 1))).port.rx = .body (header 1) ∧ (header 1).length ≠ 0) ∧
      (∃ r rest, (corridor.refuseNow 0x7F 1 .badKind).port.replies = r :: rest ∧ r.immediate = true)) ∧
    ((asked corridor 0x20 []).port.requests = [] ++ ask 0x20 [] :: [] ∧ (ask 0x20 []).stage = .waiting) ∧
    (∃ x rest, busyPort.port.replies = x :: rest ∧ x.immediate = false ∧ ∃ r after,
      busyPort.port.requests = [] ++ r :: after ∧ r.stage = .replied) := by
  refine ⟨⟨by decide +kernel, by decide +kernel, by decide +kernel, by decide +kernel,
    ⟨⟨0x7F, 1, .badKind, [], true⟩, [], by decide +kernel, rfl⟩⟩, by decide +kernel, ?_⟩
  exact ⟨_, _, rfl, rfl, _, _, rfl, rfl⟩

theorem test_meets_Ident :
    (asked corridor 0x20 []).isNext (ask 0x20 []) ∧ (ask 0x20 []).kind = 0x20 ∧ (ask 0x20 []).words = [] := by
  decide +kernel

/-- The first item of each subject is there; an index beyond the last, and item 15 where there is no such item,
are not. -/
theorem test_meets_StatusGet :
    (∀ row ∈ statusRows, let w := wordPair row.code 0
      (asked corridor 0x2E [w]).isNext (ask 0x2E [w]) ∧ hi w = row.code ∧ lo w ≤ row.last ∧
        row.present (asked corridor 0x2E [w]) (lo w) = true) ∧
    (∀ row ∈ statusRows, row.last < 255 → let w := wordPair row.code (row.last + 1)
      hi w = row.code ∧ row.last < lo w) ∧
    (∀ row ∈ statusRows, row.last < 255 → let w := wordPair row.code row.last
      hi w = row.code ∧ lo w ≤ row.last ∧ row.present (asked corridor 0x2E [w]) (lo w) = false) ∧
    hi (wordPair 0 0) = 0 ∧ 10 < hi (wordPair 11 0) := by decide +kernel

theorem test_meets_WrongLengthIsABadFrame :
    ∀ row ∈ requestRows, ∃ ws ∈ [[], [(0 : Word)]],
      (asked corridor row.kind ws).isNext (ask row.kind ws) ∧ row.fits ws = false := by decide +kernel

/-! ### Configuration banks -/

theorem test_meets_RecordsReadBackAsWritten :
    ∀ x ∈ [ConfigRecord.analog analog0, .contingency contingency0, .scheme scheme0, .action action0,
        .site ⟨0, some 1⟩, .channel channelDef0, .params ⟨50, 10, 1000, 1000⟩, .status status0],
      ∃ c ∈ allClasses, ∃ index ∈ [0, 64], index ≤ classLast c ∧
        (recordWords x).length = classWords c index ∧ readRecord c index (recordWords x) = some x := by
  decide +kernel

theorem test_meets_StagingABank :
    ((asked corridor 0x21 [1, 8]).isNext (ask 0x21 [1, 8]) ∧ corridor.banks.switch = .idle) ∧
    ((asked (drafting draft) 0x22 [0x0100, 0]).isNext (ask 0x22 [0x0100, 0]) ∧
      (drafting draft).banks.staged.state = .opened ∧ classOf (hi 0x0100) = some .point ∧
      lo 0x0100 ≤ classLast .point) ∧
    (classOf (hi 0x0700) = some .parameters ∧ lo 0x0700 ≤ classLast .parameters ∧
      ([50, 10, 1000, 1000] : List Word).length = classWords .parameters (lo 0x0700) ∧
      readRecord .parameters (lo 0x0700) [50, 10, 1000, 1000] = some (.params ⟨50, 10, 1000, 1000⟩) ∧
      readRecord .parameters (lo 0x0700) [0, 10, 1000, 1000] = none) ∧
    (asked corridor 0x26 [1, 0x0100]).isNext (ask 0x26 [1, 0x0100]) ∧
    ((asked (switching .pending) 0x21 [1, 8]).isNext (ask 0x21 [1, 8]) ∧
      (switching .pending).banks.switch ≠ .idle ∧ (switching .preparing).banks.switch ≠ .idle ∧
      stageWriteLength [0x0100, 0] = true) ∧
    (corridor.banks.staged.state ≠ .opened ∧ corridor.banks.staged.state ≠ .sealed) := by decide +kernel

/-- An option of 3, the classes 0 and 1, an index above the last point, a mark of 02h, a bank of 3. -/
theorem test_meets_StagingABank_outOfRange :
    ((asked (drafting draft) 0x21 [3, 8]).isNext (ask 0x21 [3, 8]) ∧ (3 : Word) ≠ 1 ∧ (3 : Word) ≠ 2 ∧
      (drafting draft).banks.switch = .idle ∧ (drafting draft).banks.staged.state = .opened) ∧
    (∀ n ∈ [[0x0000, 0], [0x01C0, 0], [0x0100, 0x0200]], let ws : List Word := n.map (BitVec.ofNat 16)
      (asked (drafting draft) 0x22 ws).isNext (ask 0x22 ws) ∧ stageWriteLength ws = true) ∧
    (classOf (hi 0x0000) = none ∧ classOf (hi 0x01C0) = some .point ∧ classLast .point < lo 0x01C0 ∧
      (0x0200 : Word) ≠ 0x0000 ∧ (0x0200 : Word) ≠ 0x0100) ∧
    (∀ n ∈ [[3, 0x0100], [1, 0x0000], [2, 0x01C0]], let ws : List Word := n.map (BitVec.ofNat 16)
      (asked corridor 0x26 ws).isNext (ask 0x26 ws)) := by decide +kernel

theorem test_meets_StageSeal :
    (asked (drafting draft) 0x23 []).isNext (ask 0x23 []) ∧ (drafting draft).banks.switch = .idle ∧
      (drafting draft).banks.staged.state = .opened ∧ sealFailureOf draft = none ∧
      (drafting flawed).banks.staged.state = .opened ∧
      sealFailureOf flawed = some ⟨.site, 0, .reference⟩ := by decide +kernel

theorem test_meets_SealedBanksAreSound :
    sealFailureOf draft = none ∧ rec? draft.scheme 0 = some scheme0 ∧ rec? draft.action 1 = some action1 ∧
      rec? draft.site 0 = some ⟨0, some 1⟩ ∧ rec? draft.channel 1 = some channelDef0 ∧
      (rec? draft.analog 0 = some analog0 ∧ analog0.source = .slot 0 3) ∧
      (rec? draft.status 0 = some status0 ∧ status0.source = .slot 0 1) ∧
      action1.eligible.getLsbD 0 = true ∧ action1.source = .point 0 ∧
      (rec? draft.contingency 0 = some contingency0 ∧
        contingency0.terms = [⟨some (0, 17), none, .opened⟩]) ∧
      (rec? draft.contingency 1 = some contingency1 ∧
        contingency1.terms = [⟨some (0, 18), some 0, .opened⟩]) := by decide +kernel

/-- The small corridor as a switch finds it that waits for contingency 1. -/
def disturbed (x : SwitchState) : State := { switching x with
  detector := put corridor.detector 1 (some { Contingency.cleared 1 with state := .pending }) }

theorem test_meets_SwitchAndPreparation :
    (let s := drafting { bank with label := 8 }
     (asked s 0x24 []).isNext (ask 0x24 []) ∧ s.banks.switch = .idle ∧ s.banks.staged.state = .sealed ∧
      s.quiescent = true) ∧
    (let s : State := { disturbed .idle with banks := (drafting { bank with label := 8 }).banks }
     s.banks.switch = .idle ∧ s.banks.staged.state = .sealed ∧ s.quiescent = false) ∧
    ((asked (switching .pending) 0x25 []).isNext (ask 0x25 []) ∧ (switching .pending).banks.switch ≠ .idle) ∧
    ((told (switching .preparing) (.firstEvidence 1)).isFirst (fun m => (firstEvidence? 1 m).isSome)
        (.firstEvidence 1) ∧ (switching .preparing).banks.switch = .preparing ∧
      (switching .pending).banks.switch ≠ .preparing) ∧
    ((told (switching .pending) .quiescence).isFirst (fun m => (quiescence? m).isSome) .quiescence ∧
      (switching .pending).banks.switch = .pending ∧ (switching .pending).quiescent = true ∧
      rec? (switching .pending).banks.staged.scheme 0 = some scheme0 ∧
      enableAfter scheme0 ((switching .pending).scheme? 0) = true ∧
      enableAfter scheme0 (some { armed with enable := false }) = false ∧
      (disturbed .pending).quiescent = false) := by decide +kernel

/-- The work of the Engine that an entry to PREPARING finds, and the staged views that an event finds. -/
theorem test_meets_SwitchAndPreparation_work :
    ((switching .pending).engine.shadowIdle = true ∧ (switching .pending).engine.running = none ∧
      (switching .pending).engine.cover = [] ∧ (switching .pending).engine.suspended = none ∧
      (switching .pending).engine.queue = []) ∧
    (let e : Engine := { corridor.engine with running := some (.cover ⟨0, 1400, 0, []⟩) }
     e.shadowIdle = true ∧ e.running.isSome = true) ∧
    (let s := switching .preparing
     rec? s.banks.staged.scheme 0 = some scheme0 ∧ enableAfter scheme0 (s.scheme? 0) = true ∧
      (∃ x ∈ scheme0.inputs, viewMoved (rec? s.views.analog x.point) (s.stagedAnalog x.point) = true) ∧
      (let t := { s with views := s.stagedPoints }
       ¬∃ x ∈ scheme0.inputs, viewMoved (rec? t.views.analog x.point) (t.stagedAnalog x.point) = true) ∧
      rec? s.banks.staged.action 1 = some action1 ∧ action1.eligible.getLsbD 0 = true ∧
      stagedDiffers (rec? s.pool.staged 1) (s.stagedAction 1) = true) := by decide +kernel

/-- A preparation of scheme 0 with an earlier outcome and requirement, and staged views that have moved. -/
def preparing (x : Scheme) (old : Reported) (requirement : Nat) (armOn : Int) : State :=
  let s := (switching .preparing).setScheme 0 x
  let staged : Bank := { s.banks.staged with
    scheme := put bank.scheme 0 (some { scheme0 with armOn := armOn, armOff := 400 }) }
  let record := armed.record.map (fun r => { r with requirement := requirement })
  { s with
    banks := { s.banks with staged := staged, carry := put s.banks.carry 0 (some old) }
    evaluator := { s.evaluator with prepared := put s.evaluator.prepared 0 record } }

/-- A requirement that changes inside the three states and outside them, and the moves into them and out of them. -/
theorem test_meets_SwitchAndPreparation_outcomes :
    (∀ x ∈ [(preparing armed (.on .armed) 1800 500, Reported.on .armed),
        (preparing armed (.on .disarmed) 1840 500, .on .armed),
        (preparing { armed with arm := .disarmed } (.on .armed) 1840 2000, .on .disarmed),
        (preparing { armed with arm := .disarmed } (.on .disarmed) 1800 2000, .on .disarmed)],
      ∃ d, rec? x.1.banks.staged.scheme 0 = some d ∧ enableAfter d (x.1.scheme? 0) = true ∧
        viewMoved (rec? x.1.views.analog 0) (x.1.stagedAnalog 0) = true ∧
        (carryRule d x.1.now (x.1.scheme? 0) (evaluate d x.1.stagedView x.1.now).q).1 = x.2) ∧
    (Reported.on .armed).isPlanned = true ∧ (Reported.on .disarmed).isPlanned = false := by
  refine ⟨?_, by decide, by decide⟩
  intro x h
  simp only [List.mem_cons, List.not_mem_nil, or_false] at h
  rcases h with rfl | rfl | rfl | rfl <;> exact ⟨_, rfl, by decide +kernel⟩

/-- The requirement of a scheme that stays DISARMED requeues its shadow scan too (R50, R95). -/
theorem test_requeue_of_a_disarmed_scheme :
    .shadowRequeue 0 ∈ ((preparing { armed with arm := .disarmed } (.on .disarmed) 1800 2000).prepareScheme
        true 0).inflight ∧
      .shadowRequeue 0 ∉ ((preparing { armed with arm := .disarmed } (.on .disarmed) 1840 2000).prepareScheme
        true 0).inflight := by decide +kernel

/-- Outside PREPARING nothing follows; in it an outcome is determined again: moved out, moved in where there was no
prepared record, changed inside the three states, and unchanged (R163). -/
theorem test_meets_SwitchAndPreparation_carries :
    let shows (s : State) : List Bool := let t := s.refreshCarry 0
      [decide (rec? t.banks.carry 0 = some .off), (rec? t.evaluator.prepared 0).isSome, t.engine.hasWork .shadow 0,
        t.inFlight (fun m => decide (m = .shadowRequeue 0))]
    let off : Scheme := { armed with enable := false, arm := .disarmed, record := none }
    let kept (x : Scheme) (old : Reported) : State := preparing x old 1840 500
    let new (x : Scheme) : State := { kept x .off with evaluator := { (kept x .off).evaluator with
      prepared := (switching .preparing).evaluator.prepared } }
    shows (kept off (.on .armed)) = [true, false, false, false] ∧ shows (new armed) = [false, true, true, false] ∧
      shows (kept armed (.on .arming)) = [false, true, false, true] ∧
      shows (kept armed (.on .armed)) = [false, true, false, false] ∧
      (switching .pending).banks.switch ≠ .preparing ∧ (rec? (new armed).evaluator.prepared 0).isNone = true := by
  decide +kernel

/-- A prepared switch whose staged views are up to date and whose shadow work is done. -/
def prepared (s : State) : State := { s with
  views := s.stagedPoints
  pool := { s.pool with staged := stagedViews s }
  banks := { s.banks with carry := put s.banks.carry 0 (some (.on .armed)) }
  evaluator := { s.evaluator with prepared := put s.evaluator.prepared 0 armed.record }
  engine := { s.engine with shadow := put s.engine.shadow 0 (some selection0) } }

theorem test_meets_ShadowCompleteCommitsTheBank :
    (let s := told (prepared (switching .preparing)) .shadowComplete
     let v := (s.without (fun m => (shadowComplete? m).isSome)).refreshPreparation
     s.isFirst (fun m => (shadowComplete? m).isSome) .shadowComplete ∧ s.banks.switch = .preparing ∧
      v.shadowDone = true ∧ s.quiescent = true) ∧
    (let s := told (prepared (disturbed .preparing)) .shadowComplete
     let v := (s.without (fun m => (shadowComplete? m).isSome)).refreshPreparation
     s.banks.switch = .preparing ∧ v.shadowDone = true ∧ s.quiescent = false) ∧
    (let s := told (switching .preparing) .shadowComplete
     let v := (s.without (fun m => (shadowComplete? m).isSome)).refreshPreparation
     v.shadowDone = false) ∧
    (switching .pending).banks.switch ≠ .preparing := by decide +kernel

/-- A staged bank in which channel 0 has another record, channel 1 serves no site, and action 0 and scheme 0 are
undefined; and one that takes channel 0 out. -/
def rebuilt (enabled : Bool) : Bank := { bank with
  label := 8
  scheme := put bank.scheme 0 none
  action := put bank.action 0 none
  site := put bank.site 0 (some ⟨0, none⟩)
  channel := put bank.channel 0 (some { channelDef0 with enabled := enabled, missedLimit := 4 }) }
def rebuilding (enabled : Bool) : State :=
  let s := switching .preparing
  let t : State := { s with banks := { s.banks with staged := rebuilt enabled } }
  told { t with views := t.stagedPoints, pool := { t.pool with staged := stagedViews t } } .shadowComplete

theorem test_meets_ShadowCompleteCommitsTheBank_units :
    (∀ enabled ∈ [true, false], let s := rebuilding enabled
      s.isFirst (fun m => (shadowComplete? m).isSome) .shadowComplete ∧ s.quiescent = true ∧
        ((s.without (fun m => (shadowComplete? m).isSome)).refreshPreparation).shadowDone = true ∧
        (s.channel 0).state ≠ .disabled ∧
        rec? s.banks.staged.channel 0 = some { channelDef0 with enabled := enabled, missedLimit := 4 }) ∧
    (let s := rebuilding true
     rec? s.banks.active.channel 0 ≠ rec? s.banks.staged.channel 0 ∧
      (rec? s.banks.active.channel 1 = rec? s.banks.staged.channel 1 ∧
        servedIn s.banks.active 1 = [0] ∧ servedIn s.banks.staged 1 = [] ∧
        (s.channel 1).state.inService = true) ∧
      (rec? s.banks.staged.action 0 = none ∧ rec? s.banks.staged.action 1 = some action1 ∧
        (s.action? 1).isSome = true ∧ s.action? 3 = none) ∧
      (rec? s.banks.active.site 0 ≠ rec? s.banks.staged.site 0 ∧ rec? s.banks.staged.site 1 = none)) ∧
    (let s := told (prepared ((switching .preparing).setSite 0 ⟨true, .alternate 1, some 90000, 0⟩)) .shadowComplete
     let t := after .shadowCompleteNotice s
     rec? s.banks.active.site 0 = some ⟨0, some 1⟩ ∧ rec? s.banks.staged.site 0 = some ⟨0, some 1⟩ ∧
      t.sound 0 0 = true ∧ t.usable 1 0 = true ∧
      revertCounts s.banks.staged.params ≤ ((100000 : Time) - 90000).toNat ∧
      ((100000 : Time) - 90001).toNat < revertCounts s.banks.staged.params) := by decide +kernel

/-- The rows of R20 at their boundaries: a limit of 10 ms is 100 counts, and the failure limit 400. -/
theorem test_meets_ShadowCompleteCommitsTheBank_points :
    let aged (quality : Quality) (age : Time) : Point Int :=
      { analogPoint with quality := quality, lastSample := 100000 - age }
    let carried (old : Source) (p : Point Int) : Option (Point Int) :=
      carryPoint 100000 0 (some old) (some (.loc, 10)) (some p)
    let quality (q : Quality) (age : Time) : Option Quality := (carried .loc (aged q age)).map Point.quality
    carried .loc (aged .good 100) = some (aged .good 100) ∧ quality .good 101 = some .stale ∧
      quality .restoring 400 = some .stale ∧ quality .limited 401 = some .failed ∧
      carried .loc (aged .stale 400) = some (aged .stale 400) ∧ quality .stale 401 = some .failed ∧
      carried .loc (aged .failed 401) = some (aged .failed 401) ∧
      carried (.slot 0 3) (aged .good 0) = some ⟨0, 0, false, .failed, 100000, 0, none, none, true⟩ ∧
      carryPoint (V := Int) 100000 0 (some .loc) none (some (aged .good 0)) = none := by decide +kernel

/-- Contingencies HELD, CLEAR, new and undefined (R38); schemes kept, new and OFF (R54, R74). -/
theorem test_meets_ShadowCompleteCommitsTheBank_records :
    (let held : Contingency := { Contingency.cleared 1 with
       state := .held, firstEvidence := some 98000, detectTime := some 99000, degraded := true, clearReady := true }
     ¬(held.clearReady = true ∧ 1 ≤ 0 ∧ held.liveCount ≤ 0) ∧
      carryContingency (some contingency0) (some held) = some { held with clearReady := false } ∧
      carryContingency (some contingency0) (some (Contingency.cleared 1)) = some (Contingency.cleared 1) ∧
      carryContingency (some contingency0) none = some (Contingency.cleared 1) ∧
      carryContingency none (some held) = none) ∧
    (carryRule scheme0 100000 (some armed) 600 = (.on .armed, none) ∧
      carryScheme 100000 scheme0 (some armed) armed.record = armed) ∧
    (carryRule scheme0 100000 none 600 = (.on .arming, some ⟨.arm, .running 101000⟩) ∧
      carryScheme 100000 scheme0 none armed.record = { armed with
        arm := .arming, dwell := some ⟨.arm, .running 101000⟩, stateTime := 100000 }) ∧
    (carryRule scheme0 100000 (some { armed with enable := false }) 600 = (.off, none) ∧
      (carryScheme 100000 scheme0 (some { armed with enable := false }) armed.record).record = none) := by
  decide +kernel

/-- A commit between the end of an execution and its notice at the Detector: a contingency that is ready to clear
becomes CLEAR (R34), another stays HELD (R38); no notice is left. -/
theorem test_meets_ShadowCompleteCommitsTheBank_ends :
    ∀ clears ∈ [true, false],
      let held : Contingency := { Contingency.cleared 1 with
        state := .held, detectTime := some 99000, liveCount := 1, clearReady := clears }
      let s : State := { (prepared (switching .preparing)).setContingency 0 held with
        inflight := [.execEnd 0 0, .shadowComplete] }
      let t := after .shadowCompleteNotice s
      s.quiescent = true ∧ s.endsOnTheWay 0 = 1 ∧ s.endsOnTheWay 1 = 0 ∧ t.endsOnTheWay 0 = 0 ∧
        (t.contingency? 0).map Contingency.state = some (if clears then .clear else .held) ∧
        (t.contingency? 0).map Contingency.liveCount = some 0 := by decide +kernel

/-- The first bank, prepared; its staged scheme has a shadow selection. -/
def firstBank : State :=
  let s := State.startPreparation { State.reset with
    now := 100000, banks := { State.reset.banks with staged := bank, requested := some 7 } }
  told { s with engine := { State.reset.engine with
    shadow := put State.reset.engine.shadow 0 (some selection0) } } .shadowComplete

/-- The first commit (R58, R96, R153, R165): both channels become ACQUIRING, scheme 0 is reported from OFF with its
first selection, COMMITTED comes last; the image of site 0 is sent, though empty. -/
theorem test_meets_ShadowCompleteCommitsTheBank_first :
    let s := firstBank
    let t := after .shadowCompleteNotice s
    t.reports.records.map (fun r => (r.kind, r.subject)) =
        [(.channelState, 0), (.channelState, 1), (.armState, 0), (.selectionChange, 0), (.bankEvent, 0)] ∧
      t.reports.records = s.commitReports t ∧ (t.scheme? 0).map Scheme.reported = some (.on .disarmed) ∧
      s.sendsImageAtCommit t 0 = true ∧ s.sendsImageAtCommit t 1 = false ∧ t.evaluator.alert = false ∧
      t.image 0 = ⟨[], 1, .awaiting 1 (some 100040)⟩ := by decide +kernel

/-- The reports of a commit that changes channels, a site, a scheme and its selection; an alert that it ends. -/
theorem test_meets_ShadowCompleteCommitsTheBank_reports :
    let s := rebuilding true
    let t := after .shadowCompleteNotice s
    t.reports.records = s.commitReports t ∧ (s.siteReports t).length = 2 ∧ s.armReports t 8 = [] ∧
      s.selectionReports t = [] ∧ s.truncatedAtCommit t = [] ∧
      s.evaluator.alert = true ∧ t.evaluator.alert = false ∧ ∀ c < 8, .alert c false ∈ t.inflight := by decide +kernel

/-- A contingency that is PENDING, one that awaits an answer, and one whose scheme is EXECUTING keep the part busy. -/
theorem test_meets_ShadowCompleteCommitsTheBank_unsettled :
    (disturbed .preparing).unsettles 1 ∧ (disturbed .preparing).blocking = 1 ∧
      (let s := (disturbed .preparing).setContingency 0 { Contingency.cleared 1 with state := .held, awaiting := [0] }
       s.unsettles 0 ∧ s.unsettles 1 ∧ s.blocking = 0) ∧
      (let s := (disturbed .preparing).setScheme 0 { armed with arm := .executing }
       s.unsettles 0 ∧ s.unsettles 1 ∧ s.blocking = 0) :=
  ⟨⟨_, rfl, .inl rfl⟩, by decide +kernel,
    ⟨⟨_, rfl, .inr (.inl (by decide))⟩, ⟨_, rfl, .inl rfl⟩, by decide +kernel⟩,
    ⟨⟨_, rfl, .inr (.inr ⟨0, _, _, rfl, rfl, rfl, rfl⟩)⟩, ⟨_, rfl, .inl rfl⟩, by decide +kernel⟩⟩

/-! ### Arming arithmetic -/

/-- Four inputs at the ends of their ranges. -/
def extreme : SchemeDef := { scheme0 with inputs := [⟨0, -1024⟩, ⟨0, -1024⟩, ⟨0, 1023⟩, ⟨0, 1023⟩] }

theorem test_meets_EvaluationRunsTheFourStages :
    extreme.inputs.length ≤ 4 ∧ (∀ i ∈ extreme.inputs, -1024 ≤ i.weight ∧ i.weight ≤ 1023) ∧
      (∀ v ∈ [(-32768 : Int), 32767], -32768 ≤ v ∧ v ≤ 32767) ∧
      corridor.liveView 0 = (.num 600, .good) := by decide +kernel

theorem test_meets_CurvePositionOfQ :
    let curve : List (Int × Nat) := [(0, 0), (100, 50), (1000, 2900)]
    2 ≤ curve.length ∧ curve.Pairwise (fun p r => p.1 < r.1) ∧ curve.head? = some (0, 0) ∧
      curve.getLast? = some (1000, 2900) ∧ ((0 : Int) ≤ 0) ∧ ((1000 : Int) ≤ 1000) ∧
      ((0 : Int) < 1 ∧ (999 : Int) < 1000) ∧ (0 < 1 ∧ 1 + 1 < curve.length ∧ curve[1]? = some (100, 50)) ∧
      scheme0.curve.length = 2 := by decide

theorem test_meets_InterpolationInsideASegment :
    let p : Int × Nat := (28000, 4500)
    let r : Int × Nat := (32000, 3000)
    (-32768 ≤ p.1 ∧ r.1 ≤ 32767 ∧ p.2 ≤ 32767 ∧ r.2 ≤ 32767) ∧ (p.1 ≤ 28000 ∧ 31999 < r.1) ∧ r.2 ≤ p.2 ∧
      (0, 0).2 ≤ (1000, 2900).2 := by decide

theorem test_meets_JudgementOfQ :
    499 < scheme0.armOn ∧ scheme0.armOn ≤ 500 ∧ scheme0.armOff ≤ 400 ∧ 399 < scheme0.armOff ∧
      scheme0.armDwell ≠ 0 ∧ scheme0.disarmDwell ≠ 0 ∧ { scheme0 with armDwell := 0 }.armDwell = 0 ∧
      { scheme0 with disarmDwell := 0 }.disarmDwell = 0 := by decide

/-- Stopped dwells with time remaining and with none. -/
theorem test_meets_JudgementOfQ_stopped :
    judgeArm scheme0 7 .arming (some ⟨.arm, .stopped 5⟩) 500 = ⟨.arming, some ⟨.arm, .running 12⟩, false, false⟩ ∧
      judgeArm scheme0 7 .arming (some ⟨.arm, .stopped 0⟩) 500 = ⟨.armed, none, false, true⟩ ∧
      judgeArm scheme0 7 .disarming (some ⟨.disarm, .stopped 0⟩) 399 = ⟨.disarmed, none, false, true⟩ := by
  decide

theorem test_meets_SeamlessCarry :
    scheme0.initialEnable = true ∧ { scheme0 with initialEnable := false }.initialEnable = false ∧
      { armed with enable := false }.enable = false ∧ armed.enable = true ∧
      { armed with arm := .latched }.arm = .latched ∧ armed.arm = .armed ∧
      { armed with arm := .disarming }.arm = .disarming ∧ { armed with arm := .arming }.arm = .arming := by
  decide

/-! ### Schemes -/

def notice0 : PointNotice := ⟨0, .good, .num 600, none⟩

theorem test_meets_SchemeChangeNotices :
    takeNth schemeChange? 1 [.schemeChange [], .quiescence, .schemeChange [notice0]] =
        some ([notice0], [.schemeChange [], .quiescence]) ∧
      corridor.schemeDef 0 = some scheme0 ∧ corridor.schemeDef 1 = none ∧ corridor.scheme? 0 = some armed ∧
      (∃ a ∈ scheme0.inputs, ∃ n ∈ [notice0], n.point = a.point) ∧
      (armed.enable = true ∧ armed.frozen = false ∧ armed.arm ≠ .executing ∧ armed.arm ≠ .latched) ∧
      ¬(∃ a ∈ scheme0.inputs, ∃ n ∈ ([] : List PointNotice), n.point = a.point) := by
  decide +kernel

/-- Scheme 0 with a requirement that the points no longer give, and from DISARMED. -/
theorem test_meets_SchemeChangeNotices_rescans :
    let e := evaluate scheme0 corridor.liveView corridor.now
    (judgeArm scheme0 corridor.now .armed none e.q).arm.isPlanned = true ∧ e.requirement = 1840 ∧
      armed.record.map (fun r => { r with requirement := 1800 }) =
        some ⟨600, 1800, false, [⟨600, .good⟩], .segment 0, 99900⟩ ∧
      (judgeArm scheme0 corridor.now .disarmed none e.q).entered = true := by decide +kernel

/-- From the moment the freeze request is sent a batch evaluates the scheme no more. -/
theorem test_meets_SchemeChangeNotices_held :
    let s : State := { withScheme { armed with record := none } with inflight := [.schemeChange [notice0]] }
    let held : State := { s with inflight := [.schemeChange [notice0], .freezeReq 0] }
    .freezeReq 0 ∉ s.inflight ∧ .freezeReq 0 ∈ held.inflight ∧
      (((after (.schemeChangeNotices 0) s).scheme? 0).bind Scheme.record).isSome = true ∧
      (after (.schemeChangeNotices 0) held).scheme? 0 = held.scheme? 0 := by decide +kernel

/-- Scheme 0 as a request on it with one word finds it. -/
def schemeAsked (x : Scheme) (kind : Nat) (w : Word) : State := asked (withScheme x) kind [w]

theorem test_meets_SchemeEnableDisableReset :
    (let x := { armed with enable := false, arm := .disarmed, record := none }
     let s := schemeAsked x 0x27 0x0001
     s.isNext (ask 0x27 [0x0001]) ∧ hi 0x0001 < 16 ∧ s.schemeDef (hi 0x0001) = some scheme0 ∧
      s.scheme? (hi 0x0001) = some x ∧ x.frozen = false ∧ x.arm ≠ .executing ∧ lo 0x0001 = 1 ∧ x.enable = false) ∧
    (let s := schemeAsked armed 0x27 0x0002
     s.isNext (ask 0x27 [0x0002]) ∧ s.scheme? (hi 0x0002) = some armed ∧ lo 0x0002 = 2 ∧ armed.enable = true ∧
      armed.arm ≠ .latched) ∧
    (let x := { armed with arm := .latched }
     let s := schemeAsked x 0x28 0
     s.isNext (ask 0x28 [0]) ∧ (0 : Word).toNat < 16 ∧ s.schemeDef 0 = some scheme0 ∧ s.scheme? 0 = some x ∧
      x.enable = true ∧ x.frozen = false ∧ x.arm = .latched) := by decide +kernel

/-- DISABLE and ENABLE while a switch is PREPARING (R50, R163), and the alert that follows them (R71). -/
theorem test_scheme_set_while_preparing :
    (let s := asked (preparing armed (.on .armed) 1840 500) 0x27 [0x0002]
     let t := after .schemeSetDisable s
     s.banks.switch = .preparing ∧ rec? t.banks.carry 0 = some .off ∧ rec? t.evaluator.prepared 0 = none ∧
      t.engine.hasWork .shadow 0 = false ∧ t.evaluator.alert = false ∧ .alert 7 false ∈ t.inflight) ∧
    (let s := asked (preparing { armed with enable := false, arm := .disarmed } .off 1840 500) 0x27 [0x0001]
     let t := after .schemeSetEnable s
     rec? t.banks.carry 0 = some (.on .arming) ∧ t.engine.hasWork .shadow 0 = true) := by decide +kernel

/-- Controls that set what is already set. -/
theorem test_meets_SchemeSet_same :
    ∀ x ∈ [(armed, (1 : Word)), ({ armed with enable := false, arm := .disarmed }, 2),
        ({ armed with blocked := true }, 3), (armed, 4), (armed, 5), ({ armed with mode := .test }, 6)],
      let s := schemeAsked x.1 0x27 x.2
      s.isNext (ask 0x27 [x.2]) ∧ hi x.2 < 16 ∧ s.schemeDef (hi x.2) = some scheme0 ∧
        s.scheme? (hi x.2) = some x.1 ∧ x.1.frozen = false ∧ x.1.arm ≠ .executing ∧
        (lo x.2 = 1 ∧ x.1.enable = true ∨ lo x.2 = 2 ∧ x.1.enable = false ∧ x.1.arm ≠ .latched ∨
          lo x.2 = 3 ∧ x.1.blocked = true ∨ lo x.2 = 4 ∧ x.1.blocked = false ∨
          lo x.2 = 5 ∧ x.1.mode = .service ∨ lo x.2 = 6 ∧ x.1.mode = .test) := by decide +kernel

theorem test_meets_SchemeBlockAndMode :
    ∀ x ∈ [(armed, (3 : Word)), ({ armed with blocked := true }, 4), ({ armed with mode := .test }, 5),
        (armed, 6)],
      let s := schemeAsked x.1 0x27 x.2
      s.isNext (ask 0x27 [x.2]) ∧ hi x.2 < 16 ∧ s.schemeDef (hi x.2) = some scheme0 ∧
        s.scheme? (hi x.2) = some x.1 ∧ x.1.frozen = false ∧ x.1.arm ≠ .executing ∧
        (lo x.2 = 3 ∧ x.1.blocked = false ∨ lo x.2 = 4 ∧ x.1.blocked = true ∨
          lo x.2 = 5 ∧ x.1.mode = .test ∨ lo x.2 = 6 ∧ x.1.mode = .service) := by decide +kernel

theorem test_meets_SchemeRequestRefusals :
    (schemeAsked armed 0x27 0x1001).isNext (ask 0x27 [0x1001]) ∧ 16 ≤ hi 0x1001 ∧ lo 0x1001 = 0 + 1 ∧
      (hi 0x0F06 < 16 ∧ corridor.schemeDef (hi 0x0F06) = none ∧ lo 0x0F06 = 5 + 1) ∧
      (corridor.schemeDef (hi 0x0000) = some scheme0 ∧ lo 0x0000 = 0 ∧ 6 < lo 0x0007) ∧
      { armed with frozen := true }.frozen = true ∧ { armed with arm := .executing }.arm = .executing ∧
      { armed with arm := .latched }.arm = .latched ∧ lo 0x0002 = 2 ∧
      (schemeAsked armed 0x28 16).isNext (ask 0x28 [16]) ∧ 16 ≤ (16 : Word).toNat ∧
      ((15 : Word).toNat < 16 ∧ corridor.schemeDef (15 : Word).toNat = none) ∧ armed.arm ≠ .latched := by
  decide +kernel

def arming (ends : Time) : Scheme := { armed with arm := .arming, dwell := some ⟨.arm, .running ends⟩ }
def disarming (ends : Time) : Scheme := { armed with arm := .disarming, dwell := some ⟨.disarm, .running ends⟩ }

theorem test_meets_DwellExpiries :
    (withScheme (arming 100000)).scheme? 0 = some (arming 100000) ∧ (arming 100000).enable = true ∧
      Time.reached corridor.now 100000 = true ∧ Time.reached corridor.now 100001 = false ∧
      (withScheme (disarming 100001)).scheme? 0 = some (disarming 100001) := by decide +kernel

/-- From ARMING to ARMED the alert stands, and none is sent; the Engine gets one notice (R58, R71). -/
theorem test_dwell_expiry_notices :
    (after (.armDwellExpiry 0) (withScheme (arming 100000))).inflight = [.schemeState 0 true .armed .service] := by
  decide +kernel

theorem test_meets_FreezeAndRelease :
    (let s := told (withScheme (arming 100500)) (.freezeReq 0)
     s.isFirst (schemeLane 0) (.freezeReq 0) ∧ s.scheme? 0 = some (arming 100500) ∧
      (arming 100500).enable = true ∧ (arming 100500).arm ≠ .latched ∧ (arming 100500).arm ≠ .executing) ∧
    (armed.enable = true ∧ armed.arm ≠ .latched ∧ armed.arm ≠ .executing ∧ armed.dwell = none) ∧
    ¬({ armed with arm := .latched }.arm ≠ .latched) ∧
    { armed with dwell := some ⟨.arm, .stopped 7⟩ }.dwell = some ⟨.arm, .stopped 7⟩ ∧
    (let x := { armed with frozen := true }
     let s := told (withScheme x) (.freezeRel 0)
     s.isFirst (schemeLane 0) (.freezeRel 0) ∧ s.scheme? 0 = some x ∧ s.schemeDef 0 = some scheme0 ∧
      x.enable = true ∧ x.arm ≠ .latched ∧ x.arm ≠ .executing) := by decide +kernel

theorem test_meets_ExecutionEndsAtTheScheme :
    (let x := { armed with arm := .executing, preExec := some .armed }
     let s := told (withScheme x) (.schemeEnd 0 .service)
     s.scheme? 0 = some x ∧ s.schemeDef 0 = some scheme0 ∧ x.enable = true ∧ x.arm = .executing ∧
      s.isFirst (schemeLane 0) (.schemeEnd 0 .service) ∧
      (told s (.schemeEnd 0 .test)).isFirst (schemeLane 0) (.schemeEnd 0 .test) ∧ x.preExec = some .armed) ∧
    { armed with preExec := some (.disarming 0) }.preExec = some (.disarming 0) := by decide +kernel

/-- A scheme that leaves EXECUTING as the only one, and beside another. -/
theorem test_meets_ExecutionEndsAtTheScheme_departures :
    let x := { armed with arm := .executing, preExec := some .armed }
    let s := told (withScheme x) (.schemeEnd 0 .service)
    let two := s.setScheme 1 { armed with arm := .executing }
    (∀ j < 16, j ≠ 0 → s.scheme? j = none) ∧ (two.scheme? 1).map Scheme.arm = some .executing ∧
      (after (.serviceExecutionEnd 0) s).inflight.count .quiescence = 1 ∧
      (after (.serviceExecutionEnd 0) two).inflight.count .quiescence = 0 := by decide +kernel

theorem test_meets_CorridorAlert_relaxed :
    let ch := { channelUp with alert := true }
    let s := told (withChannel ch) (.alert 0 false)
    s.isFirst (fun m => (alertFor 0 m).isSome) (.alert 0 false) ∧ (s.channel 0).alert = true ∧
      (s.channel 0).cadence = .relaxed := by decide +kernel

theorem test_meets_CorridorAlert :
    (told corridor (.pendingNote true)).isFirst (fun m => (pendingNote? m).isSome) (.pendingNote true) ∧
      (told corridor (.alert 0 true)).isFirst (fun m => (alertFor 0 m).isSome) (.alert 0 true) ∧
      ((corridor.channel 0).alert = false ∧ (corridor.channel 0).cadence = .relaxed) ∧
      (let ch := { channelUp with cadence := .brisk (some 99000) false }
       ((withChannel ch).channel 0).cadence = .brisk (some 99000) false ∧ ch.alert = false) ∧
      (let ch := { channelUp with alert := true, cadence := .brisk none false }
       ((withChannel ch).channel 0).alert = true ∧ ((withChannel ch).channel 0).cadence = .brisk none false) := by
  decide +kernel

/-- The alert of the small corridor on its way to every channel. -/
def alerted : State := { corridor with inflight := (List.range 8).map (fun c => .alert c true) }

theorem test_meets_CorridorAlert_sound :
    alerted.AlertSound ∧ (∀ c : Fin 8, (alerted.channel c).alert = false) ∧
      (next? (step { alerted with pending := [.corridorAlertDelivery 0] })).isSome = true :=
  ⟨⟨by rw [← State.alertCondition_iff]; decide +kernel, by decide +kernel⟩, by decide +kernel, by decide +kernel⟩

/-! ### Points -/

theorem test_meets_LifeOfAPoint :
    (1 ≤ analog0.restoreNeeded ∧ analogPoint.quality = .good) ∧
      (∀ q ∈ [Quality.good, .limited, .stale, .failed, .restoring, .substituted],
        { analogPoint with quality := q }.quality = q) ∧
      analog0.lo ≤ analog0.hi ∧
      { analogPoint with origin := some .stale }.origin = some .stale ∧
      { analogPoint with origin := some .failed }.origin = some .failed ∧
      { analogPoint with subst := some 7 }.subst = some 7 := by decide

/-- TELEMETRY of slot 3 twice, and a STATUS_REPLY, both with sequence 10 after 9; one with the last sequence. -/
def telemetry10 : RxFrame := frame 0x12 [0x0A02, 3, 700, 3, 710] .pointStore
def telemetry9 : RxFrame := frame 0x12 [0x0901, 3, 700] .pointStore
def statusReply10 : RxFrame := frame 0x11 [0x0A00, 0x0201, 0, 0, 0, 0, 0, 0, 0] .pointStore
def statusReply9 : RxFrame := frame 0x11 [0x0900, 0x0201, 0, 0, 0, 0, 0, 0, 0] .pointStore

theorem test_meets_SiteSamples :
    (∀ f ∈ [telemetry10, telemetry9, statusReply10, statusReply9],
      (delivered corridor f).isDelivered 0 .pointStore f ∧ f.header.address = 0) ∧
    readSiteFrame 0x12 (bytesToWords telemetry10.payload) = some (.telemetry 10 ([(3, 700)] ++ (3, 710) :: [])) ∧
    (∀ x ∈ ([] : List (Nat × Int)), x.1 ≠ 3) ∧
    (∃ slots, readSiteFrame 0x11 (bytesToWords statusReply10.payload) = some (.statusReply 10 slots) ∧
      slots[1]? = some 1) ∧
    (let seq := item (delivered corridor telemetry10).points.seq 0 ⟨0, true, false⟩
     (seq.reach = true ∧ 1 ≤ ((10 : Byte) - seq.last).toNat ∧ ((10 : Byte) - seq.last).toNat ≤ 127) ∧
      ¬(seq.reach = true ∧ (seq.resync = true ∨
        1 ≤ ((9 : Byte) - seq.last).toNat ∧ ((9 : Byte) - seq.last).toNat ≤ 127))) ∧
    (rec? corridor.points.analog 0 = some analogPoint ∧ corridor.analogDef 0 = some analog0 ∧
      analog0.source = .slot 0 3 ∧ corridor.statusDef 0 = some status0 ∧ status0.source = .slot 0 1) := by
  refine ⟨by decide +kernel, by decide +kernel, by decide +kernel, ⟨_, rfl, by decide +kernel⟩,
    by decide +kernel, by decide +kernel⟩

/-- The notice of a point under WORST carries lo and hi, with a single number and with the pair. -/
theorem test_notice_under_worst :
    let d : AnalogDef := { analog0 with policy := .worst }
    let moved (q : Point Int) : Option PointNotice := AnalogChange.notice? ⟨0, { analogPoint with value := 1 }, q, d⟩
    moved { analogPoint with value := 7 } = some ⟨0, .good, .num 7, some (-1000, 3000)⟩ ∧
      moved { analogPoint with quality := .failed } =
        some ⟨0, .failed, .worst (-1000) 3000, some (-1000, 3000)⟩ := by decide

/-- No expiry is due for the points of the corridor; the batch of a frame holds a notice for each of its users. -/
theorem test_meets_SiteSamples_told :
    (analogPoint.expire corridor.now analog0.staleness = analogPoint ∧
      statusPoint.expire corridor.now status0.staleness = statusPoint) ∧
    (let s := delivered corridor telemetry10
     (after (.siteSamplesTaken 0) s).inflight =
      [.schemeChange [⟨0, .good, .num 710, none⟩], .actionChange [⟨0, .good, .num 710, none⟩]]) := by decide +kernel

/-- A frame while a switch is PREPARING: the prepared evaluation is made again from 710. Its requirement changes, and so
does the staged credit of action 1: each requeues the shadow scan (R50, R95). -/
theorem test_samples_while_preparing :
    let s := delivered (prepared (switching .preparing)) telemetry10
    let t := after (.siteSamplesTaken 0) s
    s.banks.switch = .preparing ∧ (rec? t.evaluator.prepared 0).map EvalRec.q = some 710 ∧
      t.inflight.filter Msg.ofPreparation = [.shadowRequeue 0, .shadowRequeue 0] := by decide +kernel

theorem test_meets_PointPut :
    (let words : List Word := [3, 1, 700, 65, 1, 1, 710]
     (asked corridor 0x2B words).isNext (ask 0x2B words) ∧
      words = BitVec.ofNat 16 3 :: [((1 : Word), (700 : Word)), (65, 1), (1, 710)].flatMap (fun x => [x.1, x.2])) ∧
    (∀ n ∈ [(1, 700), (65, 1), (1, 710)], let w : Word := BitVec.ofNat 16 n.1
      w.toNat ≤ 191 ∧ corridor.isLocal w.toNat = true ∧ (64 ≤ w.toNat → (statusOf n.2).isSome = true)) ∧
    ¬((192 : Word).toNat ≤ 191) ∧ corridor.isLocal 0 = false ∧
    (64 ≤ 65 ∧ ¬(statusOf 4).isSome = true) ∧
    (rec? corridor.points.analog 1 = some analogPoint ∧ corridor.analogDef 1 = some analog1 ∧
      rec? corridor.points.status 1 = some statusPoint ∧ corridor.statusDef 1 = some status1 ∧
      statusOf 1 = some .opened) := by decide +kernel

def substituted : State := { corridor with points := { corridor.points with
  analog := put corridor.points.analog 0 (some (analogPoint.substitute 5))
  status := put corridor.points.status 0 (some (statusPoint.substitute .opened)) } }

theorem test_meets_SubstituteAndRelease :
    (asked corridor 0x2C [0, 3000]).isNext (ask 0x2C [0, 3000]) ∧ 191 < (192 : Word).toNat ∧
      (rec? corridor.points.analog 0 = some analogPoint ∧ corridor.analogDef 0 = some analog0 ∧
        analog0.lo ≤ (3000 : Word).toInt ∧ (3000 : Word).toInt ≤ analog0.hi ∧
        analog0.hi < (3001 : Word).toInt) ∧
      (64 ≤ (64 : Word).toNat ∧ rec? corridor.points.status 0 = some statusPoint ∧
        statusOf 1 = some .opened ∧ statusOf 3 = some .invalid) ∧
      (rec? corridor.points.analog 63 = none ∧ rec? corridor.points.status 127 = none) ∧
      (asked substituted 0x2D [0]).isNext (ask 0x2D [0]) ∧
      (rec? substituted.points.analog 0 = some (analogPoint.substitute 5) ∧
        (analogPoint.substitute 5).quality = .substituted ∧ analogPoint.quality ≠ .substituted ∧
        rec? substituted.points.status 0 = some (statusPoint.substitute .opened) ∧
        (statusPoint.substitute .opened).quality = .substituted) := by decide +kernel

theorem test_meets_ExpiriesAndLostSites :
    ((64 : Fin 192).val = 64 + (0 : Fin 128).val ∧ rec? corridor.points.status 0 = some statusPoint ∧
      corridor.statusDef 0 = some status0 ∧ rec? corridor.points.analog 0 = some analogPoint ∧
      corridor.analogDef 0 = some analog0) ∧
      (analogPoint.quality = .good ∧ 10 * analog0.staleness < ((100901 : Time) - analogPoint.lastSample).toNat) ∧
      ({ analogPoint with quality := .stale }.quality = .stale ∧
        40 * analog0.staleness < ((103901 : Time) - analogPoint.lastSample).toNat) ∧
      (((100900 : Time) - analogPoint.lastSample).toNat ≤ 10 * analog0.staleness ∧
        corridor.banks.switch ≠ .preparing) ∧
      (told corridor (.pointsReach 0 false)).isFirst (fun m => (pointsReach? 0 m).isSome)
        (.pointsReach 0 false) ∧ analog0.source = .slot 0 3 ∧ analog1.source = .loc := by decide +kernel

/-! ### Contingencies -/

def batch0 : List CheckMsg := [.transition 0 .closed .opened .good, .quality 0 .good .opened .opened]

theorem test_meets_EvidenceOfAnEvent :
    TermRec.empty.satisfied = false ∧ { TermRec.empty with satisfied := true }.satisfied = true ∧
      (⟨some (0, 17), none, .opened⟩ : TermDef).check = none ∧
      (∃ q v u, CheckMsg.quality 0 q v u ∈ [CheckMsg.quality 0 .stale .opened .opened] ∧ q ≠ .good) ∧
      { TermRec.empty with indicationSeen := some 5 }.indicationSeen.isSome = true ∧
      (let f := frame 0x13 [1, 0x1100] .detector
       (delivered corridor f).isDelivered 0 .detector f ∧
        readSiteFrame f.header.kind (bytesToWords f.payload) = some (.indication [17]) ∧
        (indicationEvidence 0 [17] contingency0).indication ≠ [] ∧
        (indicationEvidence 0 [17] contingency1).indication = []) ∧
      (corridor.contingencyDef 0 = some contingency0 ∧
        corridor.contingency? 0 = some (Contingency.cleared 1) ∧ (Contingency.cleared 1).state = .clear) ∧
      (told corridor (.checkPoint batch0)).isFirst (fun m => (checkPoint? m).isSome) (.checkPoint batch0) ∧
      (checkEvidence batch0 contingency1).check ≠ [] ∧ (checkEvidence batch0 contingency0).check = [] ∧
      (contingency1.terms.all (fun a => a.check.isSome) = true ∧ batch0.any (namesCheck contingency1) = true) ∧
      ¬(contingency0.terms.all (fun a => a.check.isSome) = true) := by
  refine ⟨by decide, by decide, by decide, ⟨.stale, .opened, .opened, by decide, by decide⟩, by decide, ?_⟩
  decide +kernel

/-- In PENDING the flag of an indication that has been seen makes its repetition no evidence. -/
theorem test_meets_EvidenceOfAnEvent_news :
    let e : Evidence := ⟨[0], []⟩
    let x (seen : Option Time) : Contingency := { Contingency.cleared 1 with
      state := .pending, terms := [{ TermRec.empty with indicationSeen := seen }] }
    (Contingency.cleared 1).state ≠ .pending ∧ (x none).state = .pending ∧ 0 ∈ e.indication ∧
      (∀ y, (x none).terms[0]? = some y → y.indicationSeen = none) ∧
      ¬(∀ y, (x (some 99000)).terms[0]? = some y → y.indicationSeen = none) ∧
      (e.news (x none)).indication = [0] ∧ (e.news (x (some 99000))).indication = [] := by
  refine ⟨by decide, rfl, by decide, ?_, ?_, by decide, by decide⟩
  · intro y h
    cases h
    rfl
  · intro h
    exact absurd (h _ rfl) (by decide)

/-- An event that only enters PENDING, one that detects at once and awaits an answer, one that leaves another PENDING,
and a detection without triggered schemes: the notes to the Evaluator, and the quiescence notices. -/
theorem test_meets_EvidenceOfAnEvent_told :
    let heard (words : List Word) (s : State) : State :=
      after (.indicationTaken 0) (delivered s (frame 0x13 words .detector))
    let notes (s : State) : List Bool × Nat := (s.inflight.filterMap pendingNote?, s.inflight.count .quiescence)
    let first := heard [1, 0x1200] corridor
    notes first = ([true], 0) ∧ notes (heard [1, 0x1100] corridor) = ([true, false], 0) ∧
      (heard [1, 0x1100] corridor).anyAwaiting = true ∧
      notes (heard [2, 0x1112] corridor) = ([true, true, true], 0) ∧
      (notes (after .checkPointMessages (told first (.checkPoint batch0))) = ([false], 1) ∧
        first.contingenciesMoved (after .checkPointMessages (told first (.checkPoint batch0)))
          (fun x y => !decide (x = .held) && decide (y = .held)) = [1]) := by decide +kernel

/-- Contingency 0 PENDING with its window's end, HELD, or awaiting its scheme's answer. -/
def pending0 (ends : Time) : Contingency := { Contingency.cleared 1 with
  state := .pending, firstEvidence := some 99000, windowEnd := some ends, requests := [0] }
def held0 (live : Nat) : Contingency := { Contingency.cleared 1 with
  state := .held, detectTime := some 99000, liveCount := live, clearReady := true }
def withContingency (x : Contingency) : State := corridor.setContingency 0 x

theorem test_meets_ContingencyEnds :
    ((withContingency (pending0 100000)).contingency? 0 = some (pending0 100000) ∧
      (pending0 100000).state = .pending ∧ (pending0 100000).windowEnd = some 100000 ∧
      Time.reached corridor.now 100000 = true ∧ Time.reached corridor.now 100001 = false ∧
      corridor.anyPending = false ∧ corridor.anyAwaiting = false) ∧
    (let s := told (withContingency { held0 0 with awaiting := [0], requests := [0] }) (.handOffAnswer 0 0 true)
     s.isFirst (detectorLane 0) (.handOffAnswer 0 0 true) ∧ (s.contingency? 0).isSome = true) ∧
    (let s := told (withContingency (held0 1)) (.execEnd 0 0)
     s.isFirst (detectorLane 0) (.execEnd 0 0) ∧ s.contingency? 0 = some (held0 1) ∧
      (∀ m ∈ [Mode.service, .test], Msg.schemeEnd 0 m ∉ s.inflight)) ∧
    (let s := asked (withContingency (held0 0)) 0x29 [0]
     s.isNext (ask 0x29 [0]) ∧ s.contingency? 0 = some (held0 0) ∧ (held0 0).state = .held ∧
      (held0 0).liveCount = 0 ∧ (held0 1).liveCount ≠ 0) ∧
    (32 ≤ (32 : Word).toNat ∧ corridor.contingency? 31 = none ∧
      corridor.contingency? 0 = some (Contingency.cleared 1)) := by decide +kernel

/-- The terms of section 2.9, satisfied, one of them degraded, and as the window would have expired: the words of the
reports (Table 11-7). -/
theorem test_words_of_terms_of_section_2_9 :
    let term0 : TermRec := ⟨some 0, some 65, true, false⟩
    let x (last : TermRec) (degraded : Bool) : Contingency := { Contingency.cleared 2 with
      firstEvidence := some 65536, terms := [term0, last], degraded := degraded }
    let s : State := { corridor with now := 65626 }
    (s.detectedReport 5 (x ⟨some 90, none, true, true⟩ true)).details = [90, 0, 0x8002, 0, 0] ∧
      (s.unconfirmedReport 5 (x ⟨some 90, none, false, false⟩ false)).details = [1, 0, 0x0131, 0, 0] := by
  decide +kernel

/-! ### The Action Pool and the Selection Engine -/

def withAction (x : Action) : State := corridor.setAction 0 x
def blocked0 : Action := { ready with avail := .blocked, blockCause := some .host }
def committed0 : Action := { ready with avail := .committed, committing := some 0, lastSerial := some 7 }
def uncertain0 : Action := { ready with avail := .uncertain, lastSerial := some 7 }

theorem test_meets_ActionSet :
    (∀ n ∈ [0x6001, 0x5F01, 0x0000, 0x0003, 0x0001, 0x0002], let w : Word := BitVec.ofNat 16 n
      (asked corridor 0x2A [w]).isNext (ask 0x2A [w])) ∧
      96 ≤ hi 0x6001 ∧ (hi 0x5F01 < 96 ∧ corridor.actionDef (hi 0x5F01) = none) ∧
      (hi 0x0001 < 96 ∧ corridor.actionDef (hi 0x0001) = some action0 ∧
        corridor.action? (hi 0x0001) = some ready) ∧
      (lo 0x0000 = 0 ∧ 2 < lo 0x0003 ∧ lo 0x0001 = 1 ∧ lo 0x0002 = 2) ∧
      (ready.avail = .available ∧ ready.avail ≠ .committed) ∧
      ((withAction blocked0).action? 0 = some blocked0 ∧ blocked0.avail = .blocked) ∧
      ((withAction committed0).action? 0 = some committed0 ∧ committed0.avail = .committed) := by
  decide +kernel

/-- BLOCK while a switch is PREPARING: the staged view shows it, and its scheme's shadow scan is requeued (R95). -/
theorem test_action_set_while_preparing :
    let s := asked (prepared (switching .preparing)) 0x2A [0x0001]
    let t := after .actionSetBlock s
    s.isNext (ask 0x2A [0x0001]) ∧ (rec? t.pool.staged 0).map StagedAction.avail = some .blocked ∧
      stagedDiffers (rec? s.pool.staged 0) (t.stagedAction 0) = true ∧ .shadowRequeue 0 ∈ t.inflight := by
  decide +kernel

theorem test_meets_PoolNotices :
    (action2.kind = .switch ∧ action0.kind ≠ .switch ∧ action0.source = .fixed 1400 ∧
      action1.kind ≠ .switch ∧ action1.source = .point 0 ∧ 99 < action1.threshold ∧ action1.threshold ≤ 100) ∧
    ((told corridor (.actionChange [notice0])).isFirst (fun m => (actionChange? m).isSome)
        (.actionChange [notice0]) ∧ corridor.actionDef 1 = some action1 ∧ (corridor.action? 1).isSome = true ∧
      [notice0] = [] ++ notice0 :: [] ∧ notice0.point = 0 ∧ (∀ p, action0.source = .point p → notice0.point ≠ p)) ∧
    (told corridor (.actionReach 0 false)).isFirst (fun m => (actionReach? 0 m).isSome) (.actionReach 0 false) ∧
    ((withAction committed0).action? 0 = some committed0 ∧ (withAction committed0).actionDef 0 = some action0 ∧
      committed0.avail = .committed ∧ committed0.lastSerial = some 7 ∧
      (withAction committed0).hasLiveOrder 0 7 = false ∧
      (executing exec0 [order0]).hasLiveOrder 0 7 = true ∧ ready.avail ≠ .committed) ∧
    (let x := { ready with lastSerial := some 7 }
     let s := told (withAction x) (.lateConfirm 0 7 .service)
     s.action? 0 = some x ∧ s.isFirst (fun y => (lateConfirm? 0 y).isSome) (.lateConfirm 0 7 .service) ∧
      x.lastSerial = some 7 ∧ x.avail.isHeld = false ∧ committed0.avail.isHeld = true) := by
  refine ⟨by decide, ⟨by decide +kernel, by decide +kernel, by decide +kernel, rfl, rfl, ?_⟩,
    by decide +kernel, by decide +kernel, by decide +kernel⟩
  intro p h
  cases h

/-- A change of credit of an action that stays AVAILABLE asks for a rescan of its scheme alone. -/
theorem test_meets_PoolNotices_credit :
    let s := told (corridor.setAction 1 { ready with credit := 500, mwQuality := some .good }) (.actionChange [notice0])
    let t := after .actionChangeNotices s
    s.isFirst (fun m => (actionChange? m).isSome) (.actionChange [notice0]) ∧
      (s.action? 1).map Action.avail = some .available ∧ (t.action? 1).map Action.avail = some .available ∧
      (s.action? 1).map Action.credit = some 500 ∧ (t.action? 1).map Action.credit = some 600 ∧
      action1.eligible.getLsbD 0 = true ∧ t.inflight = [.rescan 0 .pool] := by decide +kernel

/-- An outcome and a late confirmation that each make the action TRIPPED ask for one rescan of its scheme. -/
theorem test_meets_PoolNotices_rescans :
    ((withAction committed0).applyOutcome 0 7 .confirmed .service).inflight = [.rescan 0 .pool] ∧
      ((executing exec0 [order0]).endOrder order0 .expired false false).inflight.count (.rescan 0 .pool) = 1 ∧
      (after (.lateConfirmationNotice 0) (told (withAction { ready with lastSerial := some 7 })
        (.lateConfirm 0 7 .service))).inflight = [.rescan 0 .pool] := by decide +kernel

/-- A routine scan of scheme 0 about to examine its first candidate, and a cover scan of it. -/
def plan0 (kind : PlanKind) (phase : ScanPhase) : PlanScan := ⟨kind, 0, phase, [], [], 1840, false⟩
def cover0 : CoverScan := ⟨0, 1400, 0, []⟩
def runningScan (x : Scan) : State := { corridor with engine := { corridor.engine with running := some x } }
def suspended0 : State := { runningScan (.cover cover0) with engine := { (runningScan (.cover cover0)).engine with
  suspended := some ⟨plan0 .routine (.pass1 0), false⟩ } }
def knows (x : SchemeView) : State := { corridor with engine := { corridor.engine with
  known := put corridor.engine.known 0 x } }
def withImage (x : ImageState) : State := corridor.setImage 0 ⟨[1, 2, 3], 4, x⟩
def view0 (s : State) : SchemeView := item s.engine.known 0 SchemeView.off

theorem test_meets_EngineNotices :
    (told corridor (.schemeState 0 true .armed .service)).isFirst (evaluatorLane 0)
        (.schemeState 0 true .armed .service) ∧ (corridor.siteDef 0).isSome = true ∧
      (told corridor (.freezeNote 0)).isFirst (evaluatorLane 0) (.freezeNote 0) ∧
      ((runningScan (.plan (plan0 .routine (.pass1 0)))).engine.hasWork .routine 0 = true ∧
        corridor.engine.hasWork .routine 0 = false) ∧
      (told corridor (.freezeRelNote 0)).isFirst (evaluatorLane 0) (.freezeRelNote 0) ∧
      (∀ src ∈ [RescanSource.evaluator, .pool],
        (told corridor (.rescan 0 src)).isFirst (rescanLane 0 src) (.rescan 0 src)) ∧
      ((view0 corridor).frozen = false ∧ (view0 corridor).enable = true ∧ (view0 corridor).arm = .armed) ∧
      (view0 (knows ⟨true, .armed, .service, true⟩)).frozen = true ∧
      (view0 (knows ⟨true, .executing, .service, false⟩)).arm = .executing ∧
      (view0 (knows ⟨true, .disarmed, .service, false⟩)).arm = .disarmed ∧
      (runningScan (.plan (plan0 .routine (.pass1 0)))).engine.runs .routine 0 = true ∧
      (suspended0.engine.runs .routine 0 = false ∧ suspended0.engine.suspends .routine 0 = true) ∧
      ((runningScan (.cover cover0)).engine.hasWork .routine 0 = false ∧
        (runningScan (.cover cover0)).engine.running.isSome = true) ∧
      (told corridor (.shadowRequeue 0)).isFirst (fun m => (requeueFor 0 m).isSome) (.shadowRequeue 0) ∧
      (switching .preparing).banks.switch = .preparing ∧ corridor.banks.switch ≠ .preparing ∧
      (told corridor (.coverReq 0 440)).isFirst (coverLane 0) (.coverReq 0 440) ∧
      (corridor.engine.running = none ∧ corridor.engine.cover = []) ∧
      (told corridor (.coverCancel 0)).isFirst (coverLane 0) (.coverCancel 0) ∧
      (∀ y, Scan.plan (plan0 .routine (.pass1 0)) = .cover y → y.scheme ≠ 0) := by
  and_intros
  all_goals first
    | decide +kernel
    | exact fun _ h => nomatch h

/-- An Engine in each of the cases of a request for a scan of a kind for scheme 0: it runs, is suspended, is queued,
other work runs, nothing runs. -/
def engineCases (k : PlanKind) : List Engine :=
  let e := corridor.engine
  let busy := { e with running := some (.cover cover0) }
  [{ e with running := some (.plan (plan0 k (.pass1 0))) },
    { busy with suspended := some ⟨plan0 k (.pass1 0), false⟩ }, { busy with queue := [⟨k, 0⟩] }, busy, e]

theorem test_meets_EngineNotices_requests :
    (∀ k ∈ [PlanKind.routine, .shadow],
      (engineCases k).map (fun e => (e.runs k 0, e.suspends k 0, e.queues k 0, e.running.isSome)) =
        [(true, false, false, true), (false, true, false, true), (false, false, true, true),
          (false, false, false, true), (false, false, false, false)]) ∧
    (∀ e ∈ engineCases .shadow,
      let s : State := { switching .preparing with inflight := [.shadowRequeue 0], engine := e }
      s.isFirst (fun m => (requeueFor 0 m).isSome) (.shadowRequeue 0) ∧ s.banks.switch = .preparing ∧
        (after (.shadowRequeue 0) s).engine.hasWork .shadow 0 = true ∧
        (after (.shadowRequeue 0) s).inflight = []) := by decide +kernel

/-- A scheme-state notice that takes scheme 0 into TEST mode empties the image of site 0, which is sent, waits
unanswered where the channel is DISABLED or the site has no route, and leaves it where the codes stay. -/
theorem test_meets_EngineNotices_image :
    let noted (m : Mode) (s : State) : State := after (.schemeStateNotice 0) (told s (.schemeState 0 true .armed m))
    let waits : Time := corridor.now + BitVec.ofNat 32 (corridor.replyTimeout 0)
    let frame : TxFrame := .armSet 0 5 []
    let s := withImage .confirmed
    let unrouted : State := s.setSite 0 { s.site 0 with route := .none }
    (noted .test s).image 0 = ⟨[], 5, .awaiting 1 none⟩ ∧
      ((noted .test s).channel 0).tx.map Sending.frame = some frame ∧
      ((s.setChannel 0 Channel.reset).channel 0).state.inService = false ∧
      (noted .test (s.setChannel 0 Channel.reset)).image 0 = ⟨[], 5, .awaiting 1 (some waits)⟩ ∧
      (noted .test unrouted).image 0 = ⟨[], 5, .awaiting 1 (some waits)⟩ ∧
      (noted .service s).image 0 = ⟨[1, 2, 3], 4, .confirmed⟩ ∧
      (noted .test s).siteDef 1 = none ∧ s.truncatedReports (noted .test s) = [] := by decide +kernel

/-- Work that waits for the Engine: a cover request, a suspended scan of scheme 0, a queued one of scheme 1. -/
def waiting (cover : List CoverReq) (suspended : Option Suspended) : Engine := { corridor.engine with
  cover := cover, suspended := suspended, queue := [⟨.routine, 1⟩] }
def waitingScan (restart : Bool) : Suspended := ⟨{ plan0 .routine (.pass1 1) with list := [⟨0, 1400⟩] }, restart⟩

/-- What the Engine starts next (R90, R91): the cover request, else the suspended scan, which goes on, or restarts
where it is marked or an action of its list is no longer AVAILABLE, else the head of the queue. -/
theorem test_meets_Scans_next :
    let starts (s : State) (e : Engine) : Option Scan := ({ s with engine := e }).startNext.engine.running
    let restarted : Scan := .plan (plan0 .routine (.mandatory 0))
    starts corridor (waiting [⟨0, 440⟩] (some (waitingScan false))) = some (.cover ⟨0, 440, 0, []⟩) ∧
      starts corridor (waiting [] (some (waitingScan false))) = some (.plan (waitingScan false).scan) ∧
      starts corridor (waiting [] (some (waitingScan true))) = some restarted ∧
      starts (withAction blocked0) (waiting [] (some (waitingScan false))) = some restarted ∧
      (starts corridor (waiting [] none)).map (fun x => x.isPlan .routine 1) = some true ∧
      starts corridor corridor.engine = none ∧
      ({ corridor with engine := waiting [⟨0, 440⟩] none }).startNext.inflight = [.coverStarted 0] := by
  decide +kernel

/-- What ends the running scan of scheme 0 leaves the Engine at the next piece of work: a scan that completes, a freeze,
a scheme that becomes LATCHED, and for its cover scan a hand-over and a cancel. -/
theorem test_meets_EngineNotices_next :
    let busy (x : Scan) (ms : List Msg) : State := { corridor with
      inflight := ms, engine := { waiting [] none with running := some x } }
    let goesOn (c : Instr) (s : State) : Bool := match (after c s).engine.running with
      | some x => x.isPlan .routine 1
      | none => false
    let plan : Scan := .plan (plan0 .routine (.pass1 2))
    goesOn .routineScanStep (busy plan []) = true ∧ goesOn (.freezeNotice 0) (busy plan [.freezeNote 0]) = true ∧
      goesOn (.schemeStateNotice 0) (busy plan [.schemeState 0 true .latched .service]) = true ∧
      goesOn .coverScanStep (busy (.cover { cover0 with next := 2 }) []) = true ∧
      (after .coverScanStep (busy (.cover { cover0 with next := 2 }) [])).inflight = [.coverHandover 0 []] ∧
      goesOn (.coverCancel 0) (busy (.cover cover0) [.coverCancel 0]) = true := by decide +kernel

/-- A request for cover that the Dispatcher has cancelled meanwhile. -/
theorem test_meets_EngineNotices_cancelled :
    let s : State := { corridor with inflight := [.coverReq 0 440, .coverCancel 0] }
    s.isFirst (coverLane 0) (.coverReq 0 440) ∧ .coverCancel 0 ∈ s.inflight ∧
      s.engine.running = none ∧ s.engine.cover = [] ∧
      .coverCancel 0 ∉ (told corridor (.coverReq 0 440)).inflight := by decide +kernel

/-- The two candidates with an overshoot allowance of 1 MW: the first is skipped at a requirement of 1000. -/
def tight : State := { corridor with banks := { corridor.banks with
  active := { bank with scheme := put bank.scheme 0 (some { scheme0 with overshoot := 10 }) } } }
def tightPlan : PlanScan := { plan0 .routine (.pass1 0) with requirement := 1000 }

theorem test_meets_Scans :
    candidateOrder bank 0 = [0, 1] ∧
    ((plan0 .routine (.mandatory 0)).phase = .mandatory 0 ∧
      (corridor.scanMandatory (plan0 .routine (.mandatory 0)))[0]? = some 2 ∧
      corridor.scanAction .routine 2 = some (.available, 0) ∧
      (withAction blocked0).scanAction .routine 0 = some (.blocked, 1400)) ∧
    ((corridor.scanCandidates (plan0 .routine (.pass1 0)))[0]? = some 0 ∧
      corridor.scanOvershoot (plan0 .routine (.pass1 0)) = 0 ∧
      corridor.scanAction .routine 0 = some (.available, 1400)) ∧
    (tight.scanOvershoot tightPlan = 10 ∧ tightPlan.requirement + 10 < tightPlan.sum + 1400) ∧
    ({ tightPlan with phase := .pass2 0, skipped := [0] }.skipped[0]? = some 0) ∧
    (0 < (corridor.scanMandatory (plan0 .routine (.mandatory 0))).length ∧
      (corridor.scanMandatory (plan0 .routine (.mandatory 1))).length ≤ 1 ∧
      0 < (corridor.scanCandidates (plan0 .routine (.pass1 0))).length ∧
      (corridor.scanCandidates (plan0 .routine (.pass1 2))).length ≤ 2 ∧
      (plan0 .routine (.pass1 2)).sum < (plan0 .routine (.pass1 2)).requirement) ∧
    (armed.record.isSome = true ∧ corridor.scheme? 0 = some armed) ∧
    (let p := plan0 .routine (.pass1 0)
     (runningScan (.plan p)).engine.running = some (.plan p) ∧
      ((runningScan (.plan p)).advanceScan p).2 = none ∧
      ((runningScan (.plan (plan0 .routine (.pass1 2)))).advanceScan (plan0 .routine (.pass1 2))).2 =
        some .exhausted ∧ (∃ a ∈ selectionActions (rec? corridor.engine.published 0), a ∉ ([] : List Nat))) ∧
    (let s : State := { runningScan (.plan (plan0 .shadow (.pass1 2))) with banks := (switching .preparing).banks }
     s.engine.running = some (.plan (plan0 .shadow (.pass1 2))) ∧ s.banks.switch = .preparing ∧
      (s.advanceScan (plan0 .shadow (.pass1 2))).2 = some .exhausted) ∧
    ((runningScan (.cover cover0)).engine.running = some (.cover cover0) ∧
      sumCredits cover0.list < cover0.deficit ∧ (candidateOrder bank 0)[cover0.next]? = some 0 ∧
      (runningScan (.cover cover0)).hasOrder 0 0 = false ∧ (executing exec0 [order0]).hasOrder 0 0 = true ∧
      (candidateOrder bank 0).length ≤ { cover0 with next := 2 }.next) := by decide +kernel

/-- Where a scan settles, in each of its phases; a freeze that has begun; a set that stays the same; a cover that is
cancelled. -/
theorem test_meets_Scans_settled :
    ((corridor.scanCandidates tightPlan).length = 2 ∧ tightPlan.sum < tightPlan.requirement ∧
      tightPlan.skipped = [] ∧ { tightPlan with skipped := [0] }.skipped ≠ [] ∧
      { tightPlan with requirement := 0 }.requirement ≤ tightPlan.sum ∧
      (let p := { tightPlan with phase := .pass2 0, skipped := [0] }
       0 < p.skipped.length ∧ { p with phase := .pass2 1 }.skipped.length ≤ 1) ∧
      24 ≤ (List.replicate 24 (⟨0, 1400⟩ : SelEntry)).length) ∧
    (let p := plan0 .routine (.pass1 2)
     corridor.settleScan p = (p, some .exhausted) ∧
      corridor.settleScan (plan0 .routine (.pass1 0)) = (plan0 .routine (.pass1 0), none)) ∧
    (.freezeReq 0 ∈ (told corridor (.freezeReq 0)).inflight ∧ .freezeReq 0 ∉ corridor.inflight ∧
      corridor.scheme? 0 = some armed ∧ ¬(armed.frozen = true ∨ armed.arm = .executing) ∧
      (withScheme { armed with frozen := true }).scheme? 0 = some { armed with frozen := true }) ∧
    (∃ a ∈ selectionActions (some selection0), a ∈ [2, 0, 1]) ∧
    (let p := { plan0 .routine (.pass1 2) with list := selection0.entries }
     (corridor.advanceScan p).2 = some .sufficient ∧
      ∀ a, a ∈ selectionActions (rec? corridor.engine.published 0) ↔ a ∈ p.list.map SelEntry.action) ∧
    (.coverCancel 0 ∈ (told (runningScan (.cover cover0)) (.coverCancel 0)).inflight ∧
      .coverCancel 0 ∉ (runningScan (.cover cover0)).inflight) := by
  refine ⟨by decide +kernel, by decide +kernel, by decide +kernel, by decide +kernel, ⟨by decide +kernel, ?_⟩,
    by decide +kernel⟩
  exact fun _ => Iff.rfl

theorem test_meets_ArmImages :
    corridor.imageCodes 0 = [1, 2, 3] ∧
    (let f := frame 0x15 [0x0400] .engine
     (delivered corridor f).isDelivered 0 .engine f ∧ f.header.address < 16 ∧
      readSiteFrame f.header.kind (bytesToWords f.payload) = some (.armAck 4) ∧
      4 = ((delivered corridor f).image 0).version ∧ ((delivered corridor f).siteDef 0).isSome = true ∧
      3 ≠ ((delivered corridor f).image 0).version) ∧
    ((withImage (.awaiting 2 (some 100000))).image 0).conf = .awaiting 2 (some 100000) ∧
    ((withImage (.awaiting 3 (some 100000))).image 0).conf = .awaiting 3 (some 100000) ∧
    Time.reached corridor.now 100000 = true ∧ Time.reached corridor.now 100001 = false ∧
    (routeChannel (corridor.site 0).route = some 0 ∧ (corridor.channel 0).state.inService = true ∧
      (corridor.channel 0).queue.length < 8) := by decide +kernel

/-- The ways of a resend: a channel that takes the frame, one whose queue is full, no route. -/
theorem test_meets_ArmImages_resend :
    let s := withImage (.awaiting 1 (some 100000))
    let full := s.setChannel 0 { channelUp with queue := List.replicate 8 (.poll 0) }
    let unrouted : State := s.setSite 0 { s.site 0 with route := .none }
    let waits : Time := corridor.now + BitVec.ofNat 32 (corridor.replyTimeout 0)
    let resent (x : State) := ((after (.armImageReplyTimeout 0) x).image 0).conf
    resent s = .awaiting 2 none ∧ ¬(full.channel 0).queue.length < 8 ∧
      resent full = .awaiting 2 (some waits) ∧ (unrouted.site 0).route = .none ∧
      unrouted.siteDef 0 = some ⟨0, some 1⟩ ∧ resent unrouted = .awaiting 2 (some waits) := by decide +kernel

/-! ### Executions and trip orders -/

theorem test_meets_HandOff :
    ({ armed with enable := false }.enable = false ∧ { armed with blocked := true }.blocked = true ∧
      armed.queryAnswer = none ∧ { armed with arm := .latched }.queryAnswer = some .latched) ∧
    (let s := told corridor (.handOff 0 0 99990 false)
     s.isFirst (schemeLane 0) (.handOff 0 0 99990 false) ∧ s.scheme? 0 = some armed ∧
      s.schemeDef 0 = some scheme0) ∧
    ((executing exec0 []).exec? 0 = some exec0 ∧
      48 ≤ (executing exec0 (List.replicate 48 order0)).dispatcher.orders.length ∧
      (executing exec0 (List.replicate 47 order0)).dispatcher.orders.length < 48) ∧
    ((executing exec0 []).action? 0 = some committed0 ∧ committed0.avail ≠ .available) ∧
    (let s := executing exec0 []
     (s.action? 1).map Action.avail = some .available ∧ s.actionDef 1 = some action1 ∧
      routeChannel (s.site 0).route = some 0 ∧ (s.channel 0).state.inService = true ∧
      (s.channel 0).queue.length < 8 ∧ 9 ∉ (s.dispatcher.orders).map Order.serial) ∧
    (corridor.setSite 0 Site.reset).site 0 = Site.reset ∧ Site.reset.route = .none := by decide +kernel

/-- A hand-off creates the orders of its selection; a queue of eight TRIP frames refuses an order's frame, which then
goes to the other channel, or fails where that one is not usable. -/
theorem test_meets_HandOff_orders :
    (let t := after (.handOff 0) (told corridor (.handOff 0 0 99990 false))
     t.dispatcher.orders.map (fun o => (o.action, o.origin, o.channel)) =
       [(2, .mandatory, 0), (0, .selection, 0), (1, .selection, 0)] ∧ (t.exec? 0).isSome = true) ∧
    (let s := (executing exec0 []).setChannel 0 { channelUp with queue := List.replicate 8 (.trip 0 9 1 0 1 false) }
     let orders (u : State) := (State.walkEntry 0 .selection u ⟨1, 600⟩).dispatcher.orders.map
       (fun o => (o.state, o.attempt, o.channel))
     ¬((s.channel 0).queue.length < 8 ∨ ∃ f ∈ (s.channel 0).queue, f.isTrip = false) ∧
       orders s = [(.rerouted, 2, 1)] ∧ orders (s.setLink 1 0 Link.clear) = [(.final .failed, 1, 0)]) := by
  decide +kernel

/-- A TRIP_ACK for the order with serial 7 and output 1 of site 0. -/
def tripAck (result : Word) : RxFrame := frame 0x14 [7, 0x0100 + result] .dispatcher

theorem test_meets_TripOrders :
    ((executing exec0 [sent0]).order? 7 = some sent0 ∧ sent0.timeoutEnd = some 100000 ∧ sent0.state = .sent ∧
      Time.reached corridor.now 100000 = true ∧ Time.reached corridor.now 100001 = false ∧
      (executing exec0 [rerouted0]).order? 7 = some rerouted0 ∧ rerouted0.state = .rerouted) ∧
    ((executing exec0 [sent0]).otherChannel sent0 = some 1 ∧
      (executing exec0 [sent0]).usable 1 0 = true ∧ ((executing exec0 [sent0]).channel 1).queue.length < 8 ∧
      ((executing exec0 [sent0]).setLink 1 0 Link.clear).usable 1 0 = false) ∧
    (corridor.siteDef 0 = some ⟨0, some 1⟩ ∧ sent0.firstChannel = 0 ∧ { sent0 with firstChannel := 1 }.firstChannel ≠ 0) ∧
    (told corridor (.loss 0 .down)).isFirst (fun m => (loss? 0 m).isSome) (.loss 0 .down) ∧
    (∀ n ∈ [1, 2, 3, 4], let w : Word := BitVec.ofNat 16 n
      ((delivered (executing exec0 [sent0]) (tripAck w)).takeFrame 0 .dispatcher).isSome = true ∧
      readSiteFrame 0x14 (bytesToWords (tripAck w).payload) = some (.tripAck 7 1 n)) ∧
    ((executing exec0 [sent0]).dispatcher.orders.find? (fun o => o.serial == 7 && o.site == 0 && o.output == 1) =
        some sent0 ∧
      { sent0 with state := .final .failed }.state = .final .failed) ∧
    (corridor.dispatcher.orders.find? (fun o => o.serial == 7 && o.site == 0 && o.output == 1) = none ∧
      corridor.strayAction 0 7 1 = none ∧ (withAction uncertain0).strayAction 0 7 1 = some 0 ∧
      (withAction uncertain0).action? 0 = some uncertain0) := by decide +kernel

/-- The ways on of an order whose attempt 1 is lost: no other channel, one that is not usable, one with room, one
whose queue holds eight TRIP frames. -/
theorem test_meets_TripOrders_followed :
    let s := executing exec0 [sent0]
    let lone : State := { s with banks := { s.banks with
      active := { bank with site := put bank.site 0 (some ⟨0, none⟩) } } }
    lone.otherChannel sent0 = none ∧
      (∃ c, (s.setLink 1 0 Link.clear).otherChannel sent0 = some c ∧
        (s.setLink 1 0 Link.clear).usable c sent0.site = false) ∧
      (s.otherChannel sent0 = some 1 ∧ s.usable 1 sent0.site = true ∧ (s.channel 1).queue.length < 8) ∧
      (let t := s.setChannel 1 { channelUp with queue := List.replicate 8 (.trip 0 9 1 0 1 false) }
       t.otherChannel sent0 = some 1 ∧ t.usable 1 sent0.site = true ∧
        ¬((t.channel 1).queue.length < 8 ∨ ∃ f ∈ (t.channel 1).queue, f.isTrip = false)) ∧
      (sent0.origin ≠ .mandatory ∧ { sent0 with origin := .mandatory }.origin = .mandatory ∧
        s.exec? sent0.scheme = some exec0 ∧ s.siteDef sent0.site = some ⟨0, some 1⟩) := by
  refine ⟨by decide +kernel, ⟨1, by decide +kernel⟩, by decide +kernel, by decide +kernel, by decide +kernel⟩

theorem test_meets_ExecutionEnds :
    (let s := executing exec0 [sent0]
     s.action? sent0.action = some committed0 ∧ s.actionDef sent0.action = some action0 ∧
      committed0.avail = .committed ∧ committed0.lastSerial = some sent0.serial ∧ s.modeOf 0 = .service) ∧
    (let x := { exec0 with requirement := 1400 }
     let s := executing x [{ sent0 with state := .final .confirmed }]
     s.exec? 0 = some x ∧ (∀ o ∈ s.dispatcher.orders, o.state = .final .confirmed) ∧ x.cover = .none ∧
      x.requirement ≤ s.standing 0 ∧ x.requirement ≤ s.confirmed 0 ∧ x.requirement - s.standing 0 = 0) ∧
    (let s := executing exec0 [sent0]
     s.exec? 0 = some exec0 ∧ 0 < exec0.requirement - s.standing 0 ∧ exec0.cover = .none ∧
      { exec0 with cover := .running }.cover ≠ .none ∧ sent0.state ≠ .final .confirmed) ∧
    ((told (executing exec0 [sent0]) (.coverStarted 0)).isFirst (handoverLane 0) (.coverStarted 0) ∧
      (told (executing exec0 [sent0]) (.coverHandover 0 [⟨1, 600⟩])).isFirst (handoverLane 0)
        (.coverHandover 0 [⟨1, 600⟩])) ∧
    ((executing exec0 [sent0]).dispatcher.Consistent ∧
      Time.reached corridor.now { exec0 with deadline := 100000 }.deadline = true ∧
      Time.reached corridor.now exec0.deadline = false) := by decide +kernel

/-- An entry of a cover list with the requirement standing, with an order created and with none; a final order. -/
theorem test_meets_ExecutionEnds_cover :
    (let s := executing { exec0 with requirement := 1400 } [sent0]
     s.exec? 0 = some { exec0 with requirement := 1400 } ∧ 1400 ≤ s.standing 0) ∧
    (let s := executing exec0 [sent0]
     s.exec? 0 = some exec0 ∧ s.standing 0 < exec0.requirement ∧
      ¬s.dispatcher.orders.length < (s.walkEntry 0 .cover ⟨0, 1400⟩).dispatcher.orders.length ∧
      s.dispatcher.orders.length < (s.walkEntry 0 .cover ⟨1, 600⟩).dispatcher.orders.length ∧
      (s.walkEntry 0 .cover ⟨1, 600⟩).exec? 0 = some exec0) ∧
    (let o := { sent0 with state := .final .confirmed, outcomeTime := some 100000 }
     o.state = .final .confirmed ∧ o.outcomeTime = some 100000) := by decide +kernel

/-! ### Channels and sites -/

def channelAsked (x : Channel) (control : Word) : State := asked (withChannel x) 0x30 [control]
def loopback : Channel := { channelUp with state := .loopback }

theorem test_meets_ChannelControls :
    (∀ n ∈ [0x0801, 0x0705, 0x0000, 0x0006, 0x0001, 0x0002, 0x0003, 0x0004, 0x0005],
      let w : Word := BitVec.ofNat 16 n
      (channelAsked channelUp w).isNext (ask 0x30 [w])) ∧
      8 ≤ hi 0x0801 ∧ (hi 0x0705 < 8 ∧ corridor.channelDef (hi 0x0705) = none) ∧
      (hi 0x0001 < 8 ∧ corridor.channelDef (hi 0x0001) = some channelDef0) ∧
      (lo 0x0000 = 0 ∧ 5 < lo 0x0006 ∧ [lo 0x0001, lo 0x0002, lo 0x0003, lo 0x0004, lo 0x0005] = [1, 2, 3, 4, 5]) ∧
      (channelUp.state.inService = true ∧ channelUp.state ≠ .disabled ∧ channelUp.state ≠ .loopback) ∧
      ((withChannel Channel.reset).channel 0).state = .disabled ∧ ((withChannel loopback).channel 0).state = .loopback := by
  decide +kernel

def probing (p : ProbePhase) : Channel := { loopback with probe := some ⟨[7, 9], p⟩ }
def probed (x : RxState) : Channel := { probing (.waiting 99000) with rx := x }
def probeHeader : Header := ⟨4, false, false, 0, 1, 2, false⟩

theorem test_meets_Probes :
    ((asked (withChannel loopback) 0x31 [0x0002, 7, 9]).isNext (ask 0x31 [0x0002, 7, 9]) ∧
      ([7, 9] : List Word).length = lo 0x0002 ∧ hi 0x0002 < 8 ∧ corridor.channelDef 0 = some channelDef0 ∧
      ((withChannel loopback).channel 0).state = .loopback ∧ (corridor.channel 0).state ≠ .loopback) ∧
    (8 ≤ hi 0x0801 ∧ corridor.channelDef (hi 0x0701) = none ∧ lo 0x0000 = 0 ∧ 16 < lo 0x0011) ∧
    (((withChannel (probing (.waiting 99000))).channel 0).probe = some ⟨[7, 9], .waiting 99000⟩ ∧
      10 * channelDef0.lossTime ≤ ((100000 : Time) - 99000).toNat ∧
      ((99999 : Time) - 99000).toNat < 10 * channelDef0.lossTime) ∧
    (let s := withChannel (probed (.body probeHeader))
     (s.channel 0).state = .loopback ∧ (s.channel 0).rx = .body probeHeader ∧
      (wordBytes [7, 9]).length = 2 * probeHeader.length ∧ probeHeader.kind = 4 ∧
      bytesToWords (wordBytes [7, 9]) = [7, 9] ∧ bytesToWords (wordBytes [7, 8]) ≠ [7, 9]) ∧
    (let r := { ask 0x31 [0x0002, 7, 9] with stage := .running }
     { corridor with port := { corridor.port with requests := [r] } }.port.requests = [] ++ r :: [] ∧
      r.stage = .running) := by decide +kernel

/-- The count of an INDICATION is the low byte of its word (11.2). -/
theorem test_indication_count_is_a_low_byte :
    frameOwners (frame 0x13 [0x0501, 0x1100] .detector) = [.detector] ∧
      frameOwners (frame 0x13 [0x0105, 0x1100] .detector) = [] := by decide +kernel

/-- A frame of site 0 that has not been checked, its sequence one after the reference or the same. -/
def unchecked (sequence : Nat) : RxFrame :=
  { frame 0x15 [0x0400] .engine with
    header := ⟨0x15, false, false, 0, sequence, 1, false⟩, owners := none }
def judged (state : ChannelState) (window : List Bool) : State :=
  withChannel { channelUp with state := state, window := window, progress := 1 }

theorem test_meets_Reception :
    (let s := channelRx (.body (header 0))
     (s.channel 0).state.inService = true ∧ (s.channel 0).rx = .body (header 0) ∧
      (s.channel 0).buffers.length < 2 ∧ 2 ≤ fullBuffers.buffers.length) ∧
    (let s := delivered corridor (unchecked 6)
     (s.channel 0).buffers = [] ++ unchecked 6 :: [] ∧ (unchecked 6).owners = none ∧
      crc16 (unchecked 6).payload = (unchecked 6).crc ∧ s.serves 0 0 = true ∧ s.serves 0 1 = false ∧
      (s.link 0 0).seqRef = some 5 ∧ (unchecked 6).header.sequence < 16 ∧ (6 + 16 - 5) % 16 ≠ 0 ∧
      ((unchecked 5).header.sequence + 16 - 5) % 16 = 0 ∧ Link.clear.seqRef = none) ∧
    corridor.channelDef 0 = some channelDef0 ∧
    (∀ x ∈ [ChannelState.acquiring, .up, .degraded, .down, .disabled, .loopback],
      ((judged x [false, false, false]).channel 0).state = x) ∧
    (channelDef0.acquireNeeded ≤ 2 ∧ 1 < channelDef0.acquireNeeded ∧ channelDef0.degradeThreshold ≤ 4 ∧
      3 < channelDef0.degradeThreshold ∧ 2 ≤ channelDef0.degradeThreshold / 2 ∧
      channelDef0.degradeThreshold / 2 < 3) := by decide +kernel

/-- A TRIP_ACK that completed behind a TELEMETRY frame is taken only when the Point Store has taken that. -/
theorem test_meets_Reception_order :
    let s := corridor.setChannel 0 { channelUp with buffers := [telemetry10, tripAck 1] }
    s.takeFrame 0 .dispatcher = none ∧ (s.takeFrame 0 .pointStore).map Prod.fst = some telemetry10 ∧
      (after (.tripAckTaken 0) s) = s ∧
      ((after (.siteSamplesTaken 0) s).takeFrame 0 .dispatcher).map Prod.fst = some (tripAck 1) := by decide +kernel

/-- Channel 0 sends a frame, with a TRIP frame behind a POLL in its queue. -/
def sending (f : TxFrame) : Channel := { channelUp with
  tx := some ⟨f, 3, false⟩, queue := [.poll 0, .trip 0 8 2 0 1 false] }
def cycleAt (position : Nat) (start : Time) : Channel := { channelUp with cycle := some ⟨start, position, 500⟩ }
def polled (ends : Time) (missed : Nat) : State := corridor.setLink 0 0 ⟨true, missed, .awaiting ends, some 5⟩

theorem test_meets_TransmissionAndPolling :
    (let f : TxFrame := .trip 0 7 1 0 1 false
     ((withChannel (sending f)).channel 0).tx = some ⟨f, 3, false⟩ ∧
      ((withChannel (sending f)).channel 0).queue = [.poll 0] ++ .trip 0 8 2 0 1 false :: [] ∧
      (TxFrame.trip 0 8 2 0 1 false).isTrip = true ∧ (TxFrame.poll 0).isTrip = false ∧
      (corridor.channelDef 0).isSome = true ∧ ((withImage (.awaiting 1 none)).image 0).version = 4) ∧
    (let s := withChannel (cycleAt 0 99900)
     (s.channel 0).cycle = some ⟨99900, 0, 500⟩ ∧ (s.channel 0).state.inService = true ∧
      (s.served 0)[0]? = some 0 ∧ (s.served 0).length ≤ 1 ∧
      Time.reached corridor.now (99900 + BitVec.ofNat 32 (0 * 500 / 1)) = true ∧
      Time.reached corridor.now ((99900 : Time) + 500) = false ∧ Time.reached corridor.now ((99500 : Time) + 500) = true ∧
      (s.link 0 0).poll = .none ∧ (s.channel 0).queue.length < 8 ∧
      8 ≤ { channelUp with queue := List.replicate 8 (.poll 0) }.queue.length) ∧
    ((polled 100000 2).channelDef 0 = some channelDef0 ∧ ((polled 100000 2).link 0 0).poll = .awaiting 100000 ∧
      Time.reached corridor.now 100000 = true ∧ Time.reached corridor.now 100001 = false ∧
      min (2 + 1) channelDef0.missedLimit = channelDef0.missedLimit ∧
      min (1 + 1) channelDef0.missedLimit ≠ channelDef0.missedLimit ∧ ((polled 100000 2).link 0 0).reachable = true) ∧
    (let f := frame 0x12 [0x0A01, 3, 700] .pollTracking
     ((delivered (polled 100001 1) f).takeFrame 0 .pollTracking).isSome = true ∧
      ((delivered corridor f).takeFrame 0 .pollTracking).isSome = true ∧ (corridor.link 0 0).poll = .none) ∧
    (let ch := { channelUp with cadence := .brisk (some 90000) false }
     ((withChannel ch).channel 0).cadence = .brisk (some 90000) false ∧ ch.alert = false ∧
      Time.reached corridor.now ((90000 : Time) + BitVec.ofNat 32 (settleCounts corridor.banks.active.params)) =
        true) := by decide +kernel

def siteOn (x : Route) (since : Option Time) (live : Nat) : State := corridor.setSite 0 ⟨true, x, since, live⟩

theorem test_meets_LossAndRoutes :
    (corridor.channelDef 0 = some channelDef0 ∧ (corridor.channel 0).state = .up ∧
      ((100000 : Time) - (corridor.channel 0).lastGood).toNat ≤ 10 * channelDef0.lossTime ∧
      10 * channelDef0.lossTime < ((100901 : Time) - (corridor.channel 0).lastGood).toNat ∧
      corridor.serves 0 0 = true) ∧
    (let s := siteOn (.alternate 1) (some 90000) 0
     s.siteDef 0 = some ⟨0, some 1⟩ ∧ (s.site 0).route = .alternate 1 ∧
      ((s.channel 0).state = .up ∧ (s.link 0 0).reachable = true) ∧
      ((s.channel 1).state = .up ∧ (s.link 1 0).reachable = true) ∧
      revertCounts s.banks.active.params ≤ ((100000 : Time) - 90000).toNat ∧ (s.site 0).liveOrders = 0 ∧
      ((100000 : Time) - 90001).toNat < revertCounts s.banks.active.params ∧
      (s.site 0).stableSince = some 90000) ∧
    ((corridor.site 0).route = .primary 0 ∧
      ((corridor.setLink 0 0 Link.clear).link 0 0).reachable = false ∧
      ((corridor.setLink 1 0 Link.clear).link 1 0).reachable = false) ∧
    (told corridor (.liveOrder 0 true)).isFirst (fun m => (liveOrderFor 0 m).isSome) (.liveOrder 0 true) ∧
    (told corridor (.liveOrder 0 false)).isFirst (fun m => (liveOrderFor 0 m).isSome) (.liveOrder 0 false) := by
  decide +kernel

/-- A site whose reachability stands, and one whose last channel has gone. -/
theorem test_meets_LossAndRoutes_reach :
    corridor.siteDef 0 = some ⟨0, some 1⟩ ∧
      (corridor.site 0).reach = !(corridor.reachableOn 0).isEmpty ∧
      (let s := (corridor.setLink 0 0 Link.clear).setLink 1 0 Link.clear
       (s.site 0).reach ≠ !(s.reachableOn 0).isEmpty) := by decide +kernel

/-! ### Engine restart -/

theorem test_meets_EngineRestart :
    (let s := asked (executing exec0 [sent0]) 0x32 []
     s.isNext (ask 0x32 []) ∧ (ask 0x32 []).kind = 0x32 ∧ s.action? 0 = some committed0 ∧
      (s.scheme? 0).isSome = true ∧ s.schemeDef 0 = some scheme0 ∧ (s.contingency? 0).isSome = true) ∧
    busyPort.port.restart = some ⟨1, 2⟩ := by decide +kernel

/-- A restart that changes a scheme's arm state and with it the alert, and the routes it judges. -/
theorem test_meets_EngineRestart_judged :
    (let s := asked (executing exec0 []) 0x32 []
     let t := after .engineRestart s
     (s.scheme? 0).map Scheme.arm = some .executing ∧ (t.scheme? 0).map Scheme.arm = some .arming ∧
      (s.scheme? 0).map Scheme.enable = some true ∧ t.inflight.count .quiescence = 1 ∧
      .schemeState 0 true .arming .service ∈ t.inflight ∧
      (after .engineRestart (asked corridor 0x32 [])).inflight.count .quiescence = 0) ∧
    (let s := asked (corridor.setScheme 0 { armed with enable := false }) 0x32 []
     (after .engineRestart s).evaluator.alert ≠ s.evaluator.alert) ∧
    ((corridor.siteDef 0 = some ⟨0, some 1⟩ ∧ ∀ a, (corridor.site 0).route ≠ .alternate a) ∧
      (siteOn (.alternate 1) (some 90000) 2).sound 0 0 = true ∧
      (siteOn (.alternate 1) (some 90000) 2).usable 1 0 = true ∧
      revertCounts bank.params ≤ ((100000 : Time) - 90000).toNat ∧
      ((100000 : Time) - 90001).toNat < revertCounts bank.params ∧
      ((siteOn (.alternate 1) none 2).setLink 0 0 Link.clear).sound 0 0 = false) ∧
    (switching .pending).banks.switch ≠ .idle := by
  refine ⟨by decide +kernel, by decide +kernel, ⟨⟨by decide +kernel, fun _ h => nomatch h⟩, ?_⟩, by decide⟩
  decide +kernel

end Sys2Proof.Tests
end

section
/-! PROOFS. The curve of the arming arithmetic: the rounding and the bounds of an interpolated value (R46), and the
position of Q on the curve (R45). -/

namespace Sys2Proof.Machine

/-! ## Division rounded toward positive infinity (R46) -/

/-- The ceiling of `a / b` is the least whole number whose multiple of `b` reaches `a`. -/
theorem ceilDiv_le_iff {a b c : Int} (hb : 0 < b) : ceilDiv a b ≤ c ↔ a ≤ c * b := by
  have h := Int.le_ediv_iff_mul_le (a := -c) (b := -a) hb
  rw [Int.neg_mul, Int.neg_le_neg_iff] at h
  rw [← h, ceilDiv]
  omega

theorem lt_ceilDiv_iff {a b c : Int} (hb : 0 < b) : c < ceilDiv a b ↔ c * b < a := by
  rw [← Int.not_le, ceilDiv_le_iff hb, Int.not_le]

theorem le_ceilDiv_mul {b : Int} (a : Int) (hb : 0 < b) : a ≤ ceilDiv a b * b :=
  (ceilDiv_le_iff hb).mp (Int.le_refl _)

theorem ceilDiv_sub_one_mul_lt {b : Int} (a : Int) (hb : 0 < b) : (ceilDiv a b - 1) * b < a :=
  (lt_ceilDiv_iff hb).mp (by omega)

@[simp] theorem ceilDiv_zero (b : Int) : ceilDiv 0 b = 0 := by
  rw [ceilDiv, Int.neg_zero, Int.zero_ediv, Int.neg_zero]

/-! A fraction `u / w` from 0 to below 1 of a rise `d`, rounded up, stays between 0 and `d`; so does that of a fall. -/

theorem ceilDiv_fraction_of_rise {d u w : Int} (hu : 0 ≤ u) (huw : u < w) (hd : 0 ≤ d) :
    0 ≤ ceilDiv (d * u) w ∧ ceilDiv (d * u) w ≤ d := by
  have hw : 0 < w := by omega
  have reached : d * u ≤ d * w := Int.mul_le_mul_of_nonneg_left (Int.le_of_lt huw) hd
  have nonneg : 0 ≤ d * u := Int.mul_nonneg hd hu
  have above : -1 < ceilDiv (d * u) w := (lt_ceilDiv_iff hw).mpr (by omega)
  exact ⟨by omega, (ceilDiv_le_iff hw).mpr reached⟩

theorem ceilDiv_fraction_of_fall {d u w : Int} (hu : 0 ≤ u) (huw : u < w) (hd : d ≤ 0) :
    d ≤ ceilDiv (d * u) w ∧ ceilDiv (d * u) w ≤ 0 := by
  have hw : 0 < w := by omega
  have reached : d * w ≤ d * u := Int.mul_le_mul_of_nonpos_left hd (Int.le_of_lt huw)
  have nonpos : d * u ≤ 0 := Int.mul_nonpos_of_nonpos_of_nonneg hd hu
  have above : d - 1 < ceilDiv (d * u) w := (lt_ceilDiv_iff hw).mpr (by rw [Int.sub_mul]; omega)
  exact ⟨by omega, (ceilDiv_le_iff hw).mpr (by omega)⟩

/-- The product of R46 is below 32767 × 65535 in magnitude. -/
theorem curve_product_bounds {d u : Int} (hd : -32767 ≤ d ∧ d ≤ 32767) (hu : 0 ≤ u ∧ u ≤ 65534) :
    -2147385345 < d * u ∧ d * u < 2147385345 := by
  have lower : -32767 * u ≤ d * u := Int.mul_le_mul_of_nonneg_right hd.1 hu.1
  have upper : d * u ≤ 32767 * u := Int.mul_le_mul_of_nonneg_right hd.2 hu.1
  omega

/-! ## The value inside a segment (R46) -/

theorem interpolate_sub_start (p r : Int × Nat) (q : Int) :
    interpolate p r q - p.2 = ceilDiv (((r.2 : Int) - p.2) * (q - p.1)) (r.1 - p.1) := by
  unfold interpolate
  omega

@[simp] theorem interpolate_start (p r : Int × Nat) : interpolate p r p.1 = p.2 := by
  rw [interpolate, Int.sub_self, Int.mul_zero, ceilDiv_zero, Int.add_zero]

theorem interpolate_of_rise {p r : Int × Nat} {q : Int} (hp : p.1 ≤ q) (hr : q < r.1) (hy : p.2 ≤ r.2) :
    (p.2 : Int) ≤ interpolate p r q ∧ interpolate p r q ≤ r.2 := by
  have h := ceilDiv_fraction_of_rise (d := (r.2 : Int) - p.2) (u := q - p.1) (w := r.1 - p.1)
    (by omega) (by omega) (by omega)
  rw [← interpolate_sub_start] at h
  omega

theorem interpolate_of_fall {p r : Int × Nat} {q : Int} (hp : p.1 ≤ q) (hr : q < r.1) (hy : r.2 ≤ p.2) :
    (r.2 : Int) ≤ interpolate p r q ∧ interpolate p r q ≤ p.2 := by
  have h := ceilDiv_fraction_of_fall (d := (r.2 : Int) - p.2) (u := q - p.1) (w := r.1 - p.1)
    (by omega) (by omega) (by omega)
  rw [← interpolate_sub_start] at h
  omega

/-- Settles O29: the bounds of the operands give that of the product, the ceiling its two inequalities, and a rise and
a fall each keep the value between the two ends. -/
theorem interpolationInsideASegment : Obligations.InterpolationInsideASegment := by
  refine ⟨?_, by decide⟩
  intro p r q hx0 hx1 hy0 hy1 hp hr product width quotient
  have hwidth : 0 < width := Int.sub_pos_of_lt (Int.lt_of_le_of_lt hp hr)
  have hquotient : quotient = ceilDiv product width := interpolate_sub_start p r q
  have hproduct : -2147385345 < product ∧ product < 2147385345 :=
    curve_product_bounds (by omega) (by omega)
  have rise : p.2 ≤ r.2 → (p.2 : Int) ≤ interpolate p r q ∧ interpolate p r q ≤ r.2 :=
    interpolate_of_rise hp hr
  have fall : r.2 ≤ p.2 → (r.2 : Int) ≤ interpolate p r q ∧ interpolate p r q ≤ p.2 :=
    interpolate_of_fall hp hr
  have value : 0 ≤ interpolate p r q ∧ interpolate p r q ≤ 32767 := by omega
  refine ⟨by omega, by omega, by omega, by omega, by omega, by omega, hproduct.1, hproduct.2, ?_, ?_, ?_, ?_, value⟩
  · exact hquotient ▸ le_ceilDiv_mul product hwidth
  · exact hquotient ▸ ceilDiv_sub_one_mul_lt product hwidth
  · intro hy
    have := rise hy
    omega
  · intro hy
    have := fall hy
    omega

/-! ## The segment of Q (R45) -/

/-- Q falls in segment `k` of the curve, whose ends are `p` and `r`. -/
structure InSegment (curve : List (Int × Nat)) (q : Int) (k : Nat) (p r : Int × Nat) : Prop where
  start : curve[k]? = some p
  stop : curve[k + 1]? = some r
  start_le : p.1 ≤ q
  lt_stop : q < r.1

/-- The breakpoints rise strictly in x. -/
abbrev RisingInX (curve : List (Int × Nat)) : Prop := curve.Pairwise (fun p r => p.1 < r.1)

theorem RisingInX.lt {curve : List (Int × Nat)} (rising : RisingInX curve) {i j : Nat} {a b : Int × Nat}
    (ha : curve[i]? = some a) (hb : curve[j]? = some b) (hij : i < j) : a.1 < b.1 := by
  obtain ⟨hi, rfl⟩ := List.getElem?_eq_some_iff.mp ha
  obtain ⟨hj, rfl⟩ := List.getElem?_eq_some_iff.mp hb
  exact List.pairwise_iff_getElem.mp rising i j hi hj hij

theorem RisingInX.le {curve : List (Int × Nat)} (rising : RisingInX curve) {i j : Nat} {a b : Int × Nat}
    (ha : curve[i]? = some a) (hb : curve[j]? = some b) (hij : i ≤ j) : a.1 ≤ b.1 := by
  rcases Nat.eq_or_lt_of_le hij with rfl | hlt
  · obtain rfl : a = b := Option.some.inj (ha.symm.trans hb)
    exact Int.le_refl _
  · exact Int.le_of_lt (rising.lt ha hb hlt)

theorem findSegment_cons_cons (q : Int) (n : Nat) (a b : Int × Nat) (rest : List (Int × Nat)) :
    findSegment q n (a :: b :: rest) =
      if a.1 ≤ q ∧ q < b.1 then some (n, (interpolate a b q).toNat) else findSegment q (n + 1) (b :: rest) := rfl

/-- The search passes over every segment before that of Q and stops there. -/
theorem findSegment_of_inSegment {curve : List (Int × Nat)} {q : Int} {p r : Int × Nat} {k : Nat}
    (rising : RisingInX curve) (h : InSegment curve q k p r) (n : Nat) :
    findSegment q n curve = some (n + k, (interpolate p r q).toNat) := by
  obtain ⟨hp, hr, hpq, hqr⟩ := h
  induction curve generalizing n k with
  | nil => cases hp
  | cons a rest ih =>
    cases rest with
    | nil => cases hr
    | cons b rest =>
      rw [findSegment_cons_cons]
      cases k with
      | zero =>
        obtain rfl : a = p := Option.some.inj hp
        obtain rfl : b = r := Option.some.inj hr
        rw [if_pos ⟨hpq, hqr⟩, Nat.add_zero]
      | succ k =>
        have hbp : b.1 ≤ p.1 := rising.le (i := 1) rfl hp (by omega)
        rw [if_neg (by omega), ih rising.of_cons (n + 1) hp hr, Nat.add_assoc, Nat.add_comm 1 k]

theorem inSegment_index_unique {curve : List (Int × Nat)} {q : Int} {j k : Nat} {a b p r : Int × Nat}
    (rising : RisingInX curve) (hj : InSegment curve q j a b) (hk : InSegment curve q k p r) : j = k := by
  have found := (findSegment_of_inSegment rising hj 0).symm.trans (findSegment_of_inSegment rising hk 0)
  have sameIndex : 0 + j = 0 + k := (Prod.mk.inj (Option.some.inj found)).1
  omega

theorem exists_inSegment {curve : List (Int × Nat)} {q : Int} {first last : Int × Nat}
    (hfirst : curve.head? = some first) (hlast : curve.getLast? = some last) (hge : first.1 ≤ q) (hlt : q < last.1) :
    ∃ k p r, InSegment curve q k p r := by
  induction curve generalizing first with
  | nil => cases hfirst
  | cons a rest ih =>
    obtain rfl : a = first := Option.some.inj hfirst
    cases rest with
    | nil =>
      obtain rfl : a = last := Option.some.inj hlast
      omega
    | cons b rest =>
      by_cases hb : q < b.1
      · exact ⟨0, a, b, rfl, rfl, hge, hb⟩
      · obtain ⟨k, p, r, hp, hr, hpq, hqr⟩ := ih rfl (List.getLast?_cons_cons.symm.trans hlast) (by omega)
        exact ⟨k + 1, p, r, hp, hr, hpq, hqr⟩

/-! ## Position and value on the curve (R45) -/

section
variable {curve : List (Int × Nat)} {q : Int} {first last : Int × Nat}

theorem curveAt_below (hfirst : curve.head? = some first) (hlast : curve.getLast? = some last) (h : q ≤ first.1) :
    curveAt curve q = (.below, first.2) := by
  simp only [curveAt, hfirst, hlast, if_pos h]

theorem curveAt_above (hfirst : curve.head? = some first) (hlast : curve.getLast? = some last) (hends : first.1 < q)
    (h : last.1 ≤ q) : curveAt curve q = (.above, last.2) := by
  simp only [curveAt, hfirst, hlast, if_neg (Int.not_le.mpr hends), if_pos h]

theorem curveAt_inSegment {k : Nat} {p r : Int × Nat} (rising : RisingInX curve) (hfirst : curve.head? = some first)
    (hlast : curve.getLast? = some last) (hgt : first.1 < q) (hlt : q < last.1) (h : InSegment curve q k p r) :
    curveAt curve q = (.segment k, (interpolate p r q).toNat) := by
  simp only [curveAt, hfirst, hlast, if_neg (Int.not_le.mpr hgt), if_neg (Int.not_le.mpr hlt),
    findSegment_of_inSegment rising h 0, Nat.zero_add]

end

theorem inSegment_of_interior {curve : List (Int × Nat)} {j : Nat} {p : Int × Nat} (rising : RisingInX curve)
    (hj : j + 1 < curve.length) (hp : curve[j]? = some p) : InSegment curve p.1 j p curve[j + 1] :=
  have hr : curve[j + 1]? = some curve[j + 1] := List.getElem?_eq_getElem hj
  ⟨hp, hr, Int.le_refl _, rising.lt hp hr (Nat.lt_succ_self j)⟩

/-- Settles O28: the first and last breakpoints are those of indices 0 and n − 1, so strict order puts every interior
breakpoint between them; there the one segment that holds Q is the one the search finds. -/
theorem curvePositionOfQ : Obligations.CurvePositionOfQ := by
  intro curve q first last hlength (rising : RisingInX curve) hfirst hlast
  have hfirst0 : curve[0]? = some first := by rw [← List.head?_eq_getElem?, hfirst]
  have hlastN : curve[curve.length - 1]? = some last := by rw [← List.getLast?_eq_getElem?, hlast]
  have between : first.1 < q → q < last.1 → ∃ k p r, InSegment curve q k p r ∧ k + 2 ≤ curve.length ∧
      curveAt curve q = (.segment k, (interpolate p r q).toNat) := by
    intro hgt hlt
    obtain ⟨k, p, r, h⟩ := exists_inSegment hfirst hlast (Int.le_of_lt hgt) hlt
    obtain ⟨hk, -⟩ := List.getElem?_eq_some_iff.mp h.stop
    exact ⟨k, p, r, h, hk, curveAt_inSegment rising hfirst hlast hgt hlt h⟩
  refine ⟨curveAt_below hfirst hlast, ?above, ?inside, ?interior, ?twoBreakpoints⟩
  case above =>
    intro h
    have hends : first.1 < last.1 := rising.lt hfirst0 hlastN (by omega)
    exact curveAt_above hfirst hlast (by omega) h
  case inside =>
    intro hgt hlt
    obtain ⟨k, p, r, h, hk, hvalue⟩ := between hgt hlt
    exact ⟨k, p, r, hk, h.start, h.stop, h.start_le, h.lt_stop, hvalue,
      fun j a b ha hb haq hqb => inSegment_index_unique rising ⟨ha, hb, haq, hqb⟩ h⟩
  case interior =>
    intro j p hpos hj hp
    have hgt : first.1 < p.1 := rising.lt hfirst0 hp hpos
    have hlt : p.1 < last.1 := rising.lt hp hlastN (by omega)
    rw [curveAt_inSegment rising hfirst hlast hgt hlt (inSegment_of_interior rising hj hp), interpolate_start,
      Int.toNat_natCast]
  case twoBreakpoints =>
    intro htwo hgt hlt
    obtain ⟨k, p, r, -, hk, hvalue⟩ := between hgt hlt
    obtain rfl : k = 0 := by omega
    rw [hvalue]

end Sys2Proof.Machine
end

section
/-! PROOFS. The Report Queue (chapter 10): what an offer makes of the queue in each of its five cases (R185, R186), the
gap flags (R187), and what a fetch and a power-on reset leave of the pending-gap flags. -/

namespace Sys2Proof.Machine

/-! ## The number of ROUTINE records (R184) -/

/-- Whether a report is a ROUTINE one. -/
def Report.isRoutine (r : Report) : Bool := !r.isExecution

@[simp] theorem Report.isRoutine_iff {r : Report} : r.isRoutine = true ↔ r.isExecution = false :=
  iff_of_eq (Bool.not_eq_true' r.isExecution)

@[simp] theorem Report.isExecution_withGap (r : Report) (b : Bool) :
    { r with gap := b }.isExecution = r.isExecution := rfl

theorem ReportQueue.routineCount_eq_countP (q : ReportQueue) :
    q.routineCount = q.records.countP Report.isRoutine :=
  List.countP_eq_length_filter.symm

theorem ReportQueue.routineCount_pos_iff {q : ReportQueue} :
    0 < q.routineCount ↔ ∃ x ∈ q.records, x.isExecution = false := by
  simp only [q.routineCount_eq_countP, List.countP_pos_iff, Report.isRoutine_iff]

theorem countP_isRoutine_concat (rs : List Report) (r : Report) :
    (rs ++ [r]).countP Report.isRoutine = rs.countP Report.isRoutine + (if r.isExecution then 0 else 1) := by
  cases h : r.isExecution <;> simp [List.countP_append, Report.isRoutine, h]

/-- The first ROUTINE record goes, and the others keep their order. -/
theorem eraseP_isRoutine_of_first {before after : List Report} {x : Report}
    (hbefore : ∀ y ∈ before, y.isExecution = true) (hx : x.isExecution = false) :
    (before ++ x :: after).eraseP Report.isRoutine = before ++ after := by
  rw [List.eraseP_append_right _ (fun y hy => by simp [hbefore y hy]), List.eraseP_cons_of_pos (by simpa using hx)]

/-! ## What an offer does, case by case (R185 to R187) -/

namespace ReportQueue

variable {q : ReportQueue} {r : Report}

theorem admitTail_of_execution (q : ReportQueue) (hr : r.isExecution = true) :
    q.admitTail r = { q with records := q.records ++ [{ r with gap := q.gapAny }], gapAny := false } :=
  if_pos hr

theorem admitTail_of_routine (q : ReportQueue) (hr : r.isExecution = false) :
    q.admitTail r = ⟨q.records ++ [{ r with gap := q.gapAny || q.gapRoutine }], false, false⟩ :=
  if_neg (by simp [hr])

theorem offer_execution_of_room (hr : r.isExecution = true) (hroom : q.records.length < 96) :
    q.offer r = { q with records := q.records ++ [{ r with gap := q.gapAny }], gapAny := false } := by
  rw [offer, if_pos hr, if_pos hroom, admitTail_of_execution q hr]

theorem offer_execution_of_eviction (hr : r.isExecution = true) (hfull : ¬q.records.length < 96)
    (hroutine : ∃ x ∈ q.records, x.isExecution = false) :
    q.offer r = ⟨q.records.eraseP Report.isRoutine ++ [{ r with gap := q.gapAny }], false, true⟩ := by
  rw [offer, if_pos hr, if_neg hfull, if_pos (routineCount_pos_iff.mpr hroutine), admitTail_of_execution _ hr]
  rfl

theorem offer_execution_of_full (hr : r.isExecution = true) (hfull : ¬q.records.length < 96)
    (hnone : ¬∃ x ∈ q.records, x.isExecution = false) : q.offer r = { q with gapAny := true } := by
  rw [offer, if_pos hr, if_neg hfull, if_neg (mt routineCount_pos_iff.mp hnone)]

theorem offer_routine_of_room (hr : r.isExecution = false)
    (hroom : q.records.length < 96 ∧ q.routineCount < 64) :
    q.offer r = ⟨q.records ++ [{ r with gap := q.gapAny || q.gapRoutine }], false, false⟩ := by
  rw [offer, if_neg (by simp [hr]), if_pos hroom, admitTail_of_routine q hr]

theorem offer_routine_of_full (hr : r.isExecution = false)
    (hfull : ¬(q.records.length < 96 ∧ q.routineCount < 64)) : q.offer r = { q with gapAny := true } := by
  rw [offer, if_neg (by simp [hr]), if_neg hfull]

/-! ## The bounds of the queue (R186) -/

theorem bounded_iff :
    q.Bounded ↔ q.records.length ≤ 96 ∧ q.records.countP Report.isRoutine ≤ 64 := by
  rw [← routineCount_eq_countP]

theorem offer_bounded_of_execution (hr : r.isExecution = true) (h : q.Bounded) : (q.offer r).Bounded := by
  obtain ⟨hlength, hroutine⟩ := bounded_iff.mp h
  by_cases hroom : q.records.length < 96
  · rw [offer_execution_of_room hr hroom, bounded_iff, List.length_append, countP_isRoutine_concat,
      List.length_singleton, Report.isExecution_withGap, if_pos hr]
    omega
  by_cases hex : ∃ x ∈ q.records, x.isExecution = false
  · obtain ⟨x, hmem, hx⟩ := hex
    have hshorter : (q.records.eraseP Report.isRoutine).length = q.records.length - 1 :=
      List.length_eraseP_of_mem hmem (Report.isRoutine_iff.mpr hx)
    have hfewer : (q.records.eraseP Report.isRoutine).countP Report.isRoutine ≤ q.records.countP Report.isRoutine :=
      List.eraseP_sublist.countP_le
    rw [offer_execution_of_eviction hr hroom ⟨x, hmem, hx⟩, bounded_iff, List.length_append,
      countP_isRoutine_concat, List.length_singleton, Report.isExecution_withGap, if_pos hr]
    omega
  · rw [offer_execution_of_full hr hroom hex]
    exact h

theorem offer_bounded_of_routine (hr : r.isExecution = false) (h : q.Bounded) : (q.offer r).Bounded := by
  by_cases hroom : q.records.length < 96 ∧ q.routineCount < 64
  · rw [offer_routine_of_room hr hroom, bounded_iff, List.length_append, countP_isRoutine_concat,
      ← routineCount_eq_countP, List.length_singleton, Report.isExecution_withGap, if_neg (Bool.eq_false_iff.mp hr)]
    omega
  · rw [offer_routine_of_full hr hroom]
    exact h

/-- Every offer keeps the queue within 96 records and 64 ROUTINE ones. -/
theorem offer_bounded (r : Report) (h : q.Bounded) : (q.offer r).Bounded := by
  cases hr : r.isExecution with
  | true => exact offer_bounded_of_execution hr h
  | false => exact offer_bounded_of_routine hr h

end ReportQueue

/-- Settles O10: of the two cases of a ROUTINE offer one appends a record and the other keeps the records. -/
theorem routineReportAdmission : Obligations.RoutineReportAdmission := by
  intro q r hr
  refine ⟨fun hroom => by rw [ReportQueue.offer_routine_of_room hr hroom], ReportQueue.offer_routine_of_full hr, ?_⟩
  by_cases hroom : q.records.length < 96 ∧ q.routineCount < 64
  · rw [ReportQueue.offer_routine_of_room hr hroom]
    exact List.prefix_append _ _
  · have hrecords : (q.offer r).records = q.records := by rw [ReportQueue.offer_routine_of_full hr hroom]
    exact hrecords.symm ▸ List.prefix_refl q.records

/-- Settles O11: the three cases of an EXECUTION offer; where a record is evicted, the first ROUTINE one is the one that
stands behind EXECUTION records only. -/
theorem executionReportAdmission : Obligations.ExecutionReportAdmission := by
  intro q r
  refine ⟨fun hr => ⟨?room, ?eviction, ?full⟩, ReportQueue.offer_bounded r⟩
  case room =>
    intro hroom
    rw [ReportQueue.offer_execution_of_room hr hroom]
  case eviction =>
    intro hlength before x after hsplit hbefore hx
    have hmem : x ∈ q.records := by simp [hsplit]
    rw [ReportQueue.offer_execution_of_eviction hr (by omega) ⟨x, hmem, hx⟩, hsplit,
      eraseP_isRoutine_of_first hbefore hx]
    exact ⟨rfl, rfl⟩
  case full =>
    intro hlength hall
    refine ReportQueue.offer_execution_of_full hr (by omega) ?_
    rintro ⟨x, hmem, hx⟩
    exact Bool.false_ne_true (hx.symm.trans (hall x hmem))

/-! ## REPORT_FETCH and POWER_ON_RESET -/

/-- What the port makes of a row: no request of the row waits, the row's request goes to its owning rule, or it has
another length and is a BAD_FRAME. -/
theorem State.carryOut_cases (s : State) (kind : Nat) (mine fits : List Word → Bool)
    (rule : List Word → State → Answer) :
    s.carryOut kind mine fits rule = s ∨
      ∃ r, s.nextRequest kind = some r ∧ mine r.words = true ∧
        (fits r.words = true ∧ s.carryOut kind mine fits rule =
            (rule r.words s).state.replyTo r (rule r.words s).reason (rule r.words s).content ∨
          fits r.words = false ∧ s.carryOut kind mine fits rule = s.replyTo r .badFrame []) := by
  unfold State.carryOut
  cases hnext : s.nextRequest kind with
  | none => exact .inl rfl
  | some r =>
    cases hmine : mine r.words with
    | false => exact .inl (by simp [hmine])
    | true => exact .inr ⟨r, rfl, hmine, by cases hfits : fits r.words <;> simp [hmine, hfits]⟩

theorem exec_reportFetch (s : State) :
    exec .reportFetch s = .next (s.carryOut 0x2F anyRequest (isLength 1) reportFetchRule) := rfl

theorem exec_powerOnReset (straps : BitVec 2) (s : State) :
    exec (.powerOnReset straps) s = .next { State.powerOn straps with pending := s.pending } := rfl

@[simp] theorem reportFetchRule_gapAny (ws : List Word) (s : State) :
    (reportFetchRule ws s).state.reports.gapAny = s.reports.gapAny := rfl

@[simp] theorem reportFetchRule_gapRoutine (ws : List Word) (s : State) :
    (reportFetchRule ws s).state.reports.gapRoutine = s.reports.gapRoutine := rfl

/-- The pending-gap flags are the last two words of the reply. -/
theorem reportFetchRule_content (ws : List Word) (s : State) :
    ∃ content, (reportFetchRule ws s).content =
      content ++ [wordFlag s.reports.gapAny, wordFlag s.reports.gapRoutine] :=
  ⟨_, (List.append_assoc _ [_, _, _] [_, _]).symm⟩

theorem reportFetch_gaps (s : State) {t : State} (h : exec .reportFetch s = .next t) :
    t.reports.gapAny = s.reports.gapAny ∧ t.reports.gapRoutine = s.reports.gapRoutine := by
  obtain rfl := Host.Outcome.next.inj ((exec_reportFetch s).symm.trans h)
  rcases s.carryOut_cases 0x2F anyRequest (isLength 1) reportFetchRule with
    hnone | ⟨r, -, -, ⟨-, hdone⟩ | ⟨-, hbad⟩⟩
  · rw [hnone]
    exact ⟨rfl, rfl⟩
  · rw [hdone, State.replyTo_reports]
    exact ⟨reportFetchRule_gapAny r.words s, reportFetchRule_gapRoutine r.words s⟩
  · rw [hbad, State.replyTo_reports]
    exact ⟨rfl, rfl⟩

theorem reportFetch_reply {s : State} {r : Request} {w : Word} (h : s.isNext r) (hkind : r.kind = 0x2F)
    (hwords : r.words = [w]) :
    ∃ (t : State) (content : List Word), exec .reportFetch s = .next (t.replyTo r .none
      (content ++ [wordFlag s.reports.gapAny, wordFlag s.reports.gapRoutine])) := by
  obtain ⟨content, hcontent⟩ := reportFetchRule_content r.words s
  refine ⟨(reportFetchRule r.words s).state, content, ?_⟩
  rw [exec_reportFetch, State.carryOut_eq h hkind rfl (by rw [hwords]; rfl), ← hcontent]
  rfl

/-- Settles O12: an admission is one of the three cases of an offer that append a record; a fetch changes the records
alone, and the reset state has an empty queue with clear flags. -/
theorem gapFlagsAtAdmission : Obligations.GapFlagsAtAdmission := by
  refine ⟨?execution, ?eviction, ?routine, fun s _ => reportFetch_gaps s, fun _ _ _ => reportFetch_reply, ?reset⟩
  case execution =>
    intro q r hr hroom
    rw [ReportQueue.offer_execution_of_room hr hroom, List.getLast?_concat]
    exact ⟨rfl, rfl, rfl⟩
  case eviction =>
    intro q r hr hlength hroutine
    rw [ReportQueue.offer_execution_of_eviction hr (by omega) hroutine, List.getLast?_concat]
    exact ⟨rfl, rfl, rfl⟩
  case routine =>
    intro q r hr hlength hcount
    rw [ReportQueue.offer_routine_of_room hr ⟨hlength, hcount⟩, List.getLast?_concat]
    exact ⟨rfl, rfl, rfl⟩
  case reset =>
    intro straps s t h
    obtain rfl := Host.Outcome.next.inj ((exec_powerOnReset straps s).symm.trans h)
    exact ⟨rfl, rfl⟩

end Sys2Proof.Machine
end
